-- ==== Sys2Proof/Word.lean ====
section
/-! DEFINITION. The widths of the machine (00_scope.md R6): every byte-wide register and the data bus are 8 bits,
register pairs and memory addresses 16 bits. -/

namespace Sys2Proof

/-- A byte (R10). -/
abbrev Byte := BitVec 8

/-- A word: a register pair or a memory address (R6, R10). -/
abbrev Word := BitVec 16

end Sys2Proof
end

