-- ==== Sys2Proof/Machine/Bits.lean ====
section
/-! DEFINITION. The bit-field, byte-order and sign-extension helpers of 00_scope.md R10 and R11. -/

namespace Sys2Proof

/-- `hi(w) = w[15:8]` (R10). -/
def hi (w : Word) : Byte := w.extractLsb' 8 8

/-- `lo(w) = w[7:0]` (R10). -/
def lo (w : Word) : Byte := w.extractLsb' 0 8

/-- `(h << 8) | l` (R10). -/
def join (h l : Byte) : Word := h ++ l

/-- `sext_8(v)` at 16 bits (R11): v read as a two's-complement value in -128..127. -/
def sext8 (v : Byte) : Word := v.signExtend 16

/-- `parity(v)` (R11): true iff byte v has an even number of set bits. -/
def parity (v : Byte) : Bool :=
  !((v.getLsbD 0 ^^ v.getLsbD 1) ^^ (v.getLsbD 2 ^^ v.getLsbD 3) ^^
    ((v.getLsbD 4 ^^ v.getLsbD 5) ^^ (v.getLsbD 6 ^^ v.getLsbD 7)))

/-- A carry as a number of a given width: 1 for true, 0 for false. -/
def carry (w : Nat) (c : Bool) : BitVec w := if c then 1 else 0

/-- The byte with the bits of `m` if `b`, else 0. -/
def bitIf (b : Bool) (m : Byte) : Byte := if b then m else 0

/-- The byte with bit `b` alone set (`1 << b`, 45_bit.md). -/
def oneBit (b : BitVec 3) : Byte := 1#8 <<< b.toNat

/-- The three-field opcode byte `xx yyy zzz` (30_encoding.md R162). -/
def opXYZ (x : BitVec 2) (y z : BitVec 3) : Byte := x ++ y ++ z

/-- The opcode byte `xx pp qzzz` (30_encoding.md R162): `qz` is its low nibble. -/
def opXPQ (x p : BitVec 2) (qz : BitVec 4) : Byte := x ++ p ++ qz

end Sys2Proof
end

