-- ==== Sys2Proof/Config.lean ====
section
/-! DEFINITION. What one machine fixes (00_scope.md R8, R9; 92_eei_decisions.md) and the free values of the spec's
`draw()` (R14). The parameters are plain data that the state carries and that no step changes, so a statement about
every state is a statement about every choice of parameters. -/

namespace Sys2Proof

/-- The parameters of 00_scope.md R8 and R9. `RESET_REGS`, `INIT_RAM`, `INIT_VRAM` and `INIT_CRAM` are not here: they
are values of the reset state (notes/assumptions/3.md, 4.md). -/
structure Params where
  /-- `ADMIT_UNLISTED` (D1): rows of class `unlisted` spell instructions. -/
  admitUnlisted : Bool := true
  /-- `EI_SHADOW` (D6): no interrupt is accepted at the step right after EI. -/
  eiShadow : Bool := true
  /-- `IM1_ACK_CYCLES` (D8): T-states of the IM 1 acknowledge. -/
  im1AckCycles : Nat := 13
  /-- `R_READ_EXACT` (D5): LD A,R returns R's counter bits exactly, not a draw. -/
  rReadExact : Bool := false
  /-- `VCOUNTER_READ` (D23): `true` when it is a function (`Config.vcounterFn`), `false` when it is `draw`. -/
  vcounterIsFunction : Bool := false
  /-- `EXT_PORT_READ` (D28): the ports that read as something other than 0x00, with their bytes. -/
  extPorts : List Host.Cell := []
  /-- `VSYNCCYCLETIME` (R8): T-states of a frame. -/
  vsyncTime : Nat := 65232
  /-- `VFRAMETIME` (R8, D25): T-states of the visible part of a frame. -/
  vframeTime : Nat := 47803
  /-- `HSYNCCYCLETIME` (R8): T-states of a line. -/
  hsyncTime : Nat := 216
  deriving DecidableEq, Repr

/-- The parameters at the defaults of R8 and R9. -/
def Params.standard : Params := {}

/-- The free value of the `n`-th `draw()` of a run (R14). It has no body: nothing constrains it, and no proof can see
a value of it. -/
opaque Config.freeByte : Nat → Byte

/-- `VCOUNTER_READ` when it is a function of the cycles since the last V-sync (R9, D23, left OPEN by the spec). It has
no body: every such function is admitted. -/
opaque Config.vcounterFn : Nat → Byte

end Sys2Proof
end

