-- ==== Sys2Proof/Machine/Mem.lean ====
section
/-! DEFINITION. One byte store of the machine (ROM, cartridge RAM, system RAM, VRAM, CRAM): a list of (address, byte)
pairs in one canonical form, addresses strictly rising and no pair equal to what an unlisted address reads as.
An unlisted address reads as 0x00: the zero padding of ROM (R7) and the zero-initialised cartridge RAM (R49);
for system RAM, VRAM and CRAM, whose reset contents the spec leaves open, 0x00 is this model's choice
(DESIGN CHOICE, unsafe, notes/assumptions/4.md). -/

namespace Sys2Proof.Machine

/-- A byte store. -/
abbrev Mem := List Host.Cell

/-- What an unlisted address reads as. -/
def Mem.unlisted : Byte := 0

/-- The byte at an address. -/
def Mem.read : Mem → Nat → Byte
  | [], _ => Mem.unlisted
  | (k, x) :: m, a => if a = k then x else Mem.read m a

/-- The store with byte `v` at address `a`, in canonical form. -/
def Mem.write : Mem → Nat → Byte → Mem
  | [], a, v => if v = Mem.unlisted then [] else [(a, v)]
  | (k, x) :: m, a, v =>
    if a < k then (if v = Mem.unlisted then (k, x) :: m else (a, v) :: (k, x) :: m)
    else if a = k then (if v = Mem.unlisted then m else (a, v) :: m)
    else (k, x) :: Mem.write m a v

/-- The canonical form of a store whose addresses lie below `size`. -/
abbrev Mem.wf (size : Nat) (m : Mem) : Prop :=
  m.Pairwise (fun p q => p.1 < q.1) ∧ ∀ p ∈ m, p.1 < size ∧ p.2 ≠ Mem.unlisted

end Sys2Proof.Machine
end

