-- ==== Sys2Proof/Syntax.lean ====
section
/-! DEFINITION. The instructions: `Instr`, one constructor for each of the 708 instructions that the 820 rows of
spec/opcode_table.json spell, and `Op`, the same instructions read through the operand fields of 30_encoding.md (R163 to R168):
one `Op` constructor per instruction form of files 40 to 49. `Instr.op` is the reading; no two instructions have the
same one.

The eight rows of each of the sixteen mnemonics `BIT b,(IX+d)` and `BIT b,(IY+d)` (one of class `listed`, seven of class
`alias-BIT`) differ only in the low field zzz of their last byte, which the instruction ignores (30_encoding.md R176,
45_bit.md R350): they are one constructor with zzz as an operand. The constructors with operands come first: Lean's
compiled code takes at most 244 of them, and none after the 244th constructor. -/

namespace Sys2Proof

/-- The 8-bit register field r, the memory operand aside (R163). -/
inductive R8 where
  | b | c | d | e | h | l | a
  deriving DecidableEq, Repr

/-- The index register a DD or FD byte selects (R169). -/
inductive Idx where
  | ix | iy
  deriving DecidableEq, Repr

/-- The 16-bit register field rp (R164). -/
inductive Pair where
  | bc | de | hl | sp
  deriving DecidableEq, Repr

/-- The 16-bit register field rp2 of PUSH and POP (R165). -/
inductive Pair2 where
  | bc | de | hl | af
  deriving DecidableEq, Repr

/-- The register field of ADD IX,ss and ADD IY,ss (R304): 10 is the index register itself. -/
inductive IdxPair where
  | bc | de | self | sp
  deriving DecidableEq, Repr

/-- The condition field cc (R166). -/
inductive Cond where
  | nz | z | nc | c | po | pe | p | m
  deriving DecidableEq, Repr

/-- The condition of JR cc (R376): the first four of cc. -/
inductive JrCond where
  | nz | z | nc | c
  deriving DecidableEq, Repr

/-- The arithmetic/logic field alu (R167). -/
inductive AluOp where
  | add | adc | sub | sbc | and | xor | or | cp
  deriving DecidableEq, Repr

/-- The rotate/shift field rot (R168). -/
inductive RotOp where
  | rlc | rrc | rl | rr | sla | sra | sll | srl
  deriving DecidableEq, Repr

/-- The interrupt mode, IM in 0, 1, 2 (R43). -/
inductive IntMode where
  | im0 | im1 | im2
  deriving DecidableEq, Repr

/-- The direction of a block instruction: the pointers step up or down (47_io.md, 48_block.md). -/
inductive Dir where
  | inc | dec
  deriving DecidableEq, Repr

/-- A read and written 8-bit operand m: a register, `(HL)`, `(IX+d)` or `(IY+d)` (R163, R324, R350). -/
inductive Loc8 where
  | reg (r : R8) | atHL | atIdx (x : Idx) (d : Byte)
  deriving DecidableEq, Repr

/-- The source operand s of the eight ALU operations (R265). -/
inductive Src8 where
  | reg (r : R8) | imm (n : Byte) | atHL | atIdx (x : Idx) (d : Byte)
  deriving DecidableEq, Repr

/-- The instruction forms of files 40 to 49, with their operands. -/
inductive Op where
  -- 40_load8.md
  | ldRegReg (r r' : R8)                       -- R200 LD r,r'
  | ldRegImm (r : R8) (n : Byte)               -- R201 LD r,n
  | ldRegHL (r : R8)                           -- R202 LD r,(HL)
  | ldHLReg (r : R8)                           -- R203 LD (HL),r
  | ldHLImm (n : Byte)                         -- R204 LD (HL),n
  | ldRegIdx (r : R8) (x : Idx) (d : Byte)     -- R205 LD r,(IX+d)
  | ldIdxReg (x : Idx) (d : Byte) (r : R8)     -- R206 LD (IX+d),r
  | ldIdxNum (x : Idx) (d n : Byte)            -- R207 LD (IX+d),n
  | ldABC                                      -- R208 LD A,(BC)
  | ldADE                                      -- R209 LD A,(DE)
  | ldBCA                                      -- R210 LD (BC),A
  | ldDEA                                      -- R211 LD (DE),A
  | ldAMem (nn : Word)                         -- R212 LD A,(nn)
  | ldMemA (nn : Word)                         -- R213 LD (nn),A
  | ldAI                                       -- R214 LD A,I
  | ldAR                                       -- R215 LD A,R
  | ldIA                                       -- R216 LD I,A
  | ldRA                                       -- R217 LD R,A
  -- 41_load16.md
  | ldPairImm (p : Pair) (nn : Word)           -- R231 LD rp,nn
  | ldIdxImm (x : Idx) (nn : Word)             -- R232 LD IX,nn
  | ldHLMem (nn : Word)                        -- R233 LD HL,(nn)
  | ldMemHL (nn : Word)                        -- R234 LD (nn),HL
  | ldPairMem (p : Pair) (nn : Word)           -- R235 LD rp,(nn), ED form
  | ldMemPair (nn : Word) (p : Pair)           -- R236 LD (nn),rp, ED form
  | ldIdxMem (x : Idx) (nn : Word)             -- R237 LD IX,(nn)
  | ldMemIdx (nn : Word) (x : Idx)             -- R238 LD (nn),IX
  | ldSPHL                                     -- R239 LD SP,HL
  | ldSPIdx (x : Idx)                          -- R240 LD SP,IX
  | push (p : Pair2)                           -- R241 PUSH rp2
  | pushIdx (x : Idx)                          -- R242 PUSH IX
  | pop (p : Pair2)                            -- R243 POP rp2
  | popIdx (x : Idx)                           -- R244 POP IX
  | exDEHL                                     -- R245 EX DE,HL
  | exAF                                       -- R246 EX AF,AF'
  | exx                                        -- R247 EXX
  | exSPHL                                     -- R248 EX (SP),HL
  | exSPIdx (x : Idx)                          -- R249 EX (SP),IX
  -- 42_alu8.md
  | alu (o : AluOp) (s : Src8)                 -- R266 to R273
  | incLoc (m : Loc8)                          -- R274 to R276 INC m
  | decLoc (m : Loc8)                          -- R277 to R279 DEC m
  -- 43_alu16.md
  | addHL (p : Pair)                           -- R303 ADD HL,ss
  | addIdx (x : Idx) (p : IdxPair)             -- R304 ADD IX,ss
  | adcHL (p : Pair)                           -- R305 ADC HL,ss
  | sbcHL (p : Pair)                           -- R306 SBC HL,ss
  | incPair (p : Pair)                         -- R307 INC ss
  | incIdx (x : Idx)                           -- R308 INC IX
  | decPair (p : Pair)                         -- R309 DEC ss
  | decIdx (x : Idx)                           -- R310 DEC IX
  -- 44_rotate_shift.md
  | rlca | rrca | rla | rra                    -- R320 to R323
  | rot (o : RotOp) (m : Loc8)                 -- R324 to R332
  | rld | rrd                                  -- R333, R334
  -- 45_bit.md
  | bitTestReg (b : BitVec 3) (r : R8)         -- R350 BIT b,r
  | bitTestHL (b : BitVec 3)                   -- R350 BIT b,(HL)
  | bitTestIdx (b : BitVec 3) (x : Idx) (d : Byte) (z : BitVec 3)
                                               -- R350 BIT b,(IX+d): z is the low field of the last byte
  | resBit (b : BitVec 3) (m : Loc8)           -- R351 RES b,m
  | setBit (b : BitVec 3) (m : Loc8)           -- R352 SET b,m
  -- 46_control.md
  | jp (nn : Word)                             -- R371 JP nn
  | jpCond (k : Cond) (nn : Word)              -- R372 JP cc,nn
  | jpHL                                       -- R373 JP (HL)
  | jpIdx (x : Idx)                            -- R374 JP (IX)
  | jr (e : Byte)                              -- R375 JR e
  | jrCond (k : JrCond) (e : Byte)             -- R376 JR cc,e
  | djnz (e : Byte)                            -- R377 DJNZ e
  | call (nn : Word)                           -- R378 CALL nn
  | callCond (k : Cond) (nn : Word)            -- R379 CALL cc,nn
  | ret                                        -- R380 RET
  | retCond (k : Cond)                         -- R381 RET cc
  | reti                                       -- R382 RETI
  | retn                                       -- R383 RETN
  | rst (y : BitVec 3)                         -- R384 RST p, p = 8 y
  -- 47_io.md
  | inAPort (n : Byte)                         -- R400 IN A,(n)
  | inRegC (r : R8)                            -- R401 IN r,(C)
  | outPortA (n : Byte)                        -- R402 OUT (n),A
  | outCReg (r : R8)                           -- R403 OUT (C),r
  | inBlock (g : Dir)                          -- R404 INI, R406 IND
  | inBlockRep (g : Dir)                       -- R405 INIR, R407 INDR
  | outBlock (g : Dir)                         -- R408 OUTI, R410 OUTD
  | outBlockRep (g : Dir)                      -- R409 OTIR, R411 OTDR
  -- 48_block.md
  | ldBlock (g : Dir)                          -- R431 LDI, R433 LDD
  | ldBlockRep (g : Dir)                       -- R432 LDIR, R434 LDDR
  | cpBlock (g : Dir)                          -- R435 CPI, R437 CPD
  | cpBlockRep (g : Dir)                       -- R436 CPIR, R438 CPDR
  -- 49_cpu_control.md
  | nop | halt | di | ei                       -- R450 to R453
  | im (m : IntMode)                           -- R454 to R456 IM 0, IM 1, IM 2
  | neg | cpl | scf | ccf | daa                -- R457 to R461
  deriving DecidableEq, Repr

/-- The instructions of spec/opcode_table.json. `n` is an 8-bit immediate, a port number or
the offset e of a relative jump, `nn` a 16-bit immediate, `d` a displacement (R15),
`z` the ignored field of the indexed BIT forms (R176). -/
inductive Instr where
  -- the main table (30_encoding.md R172), with operands
  | ld_BC_nn (nn : Word)
  | ld_B_n (n : Byte)
  | ld_C_n (n : Byte)
  | djnz_e (n : Byte)
  | ld_DE_nn (nn : Word)
  | ld_D_n (n : Byte)
  | jr_e (n : Byte)
  | ld_E_n (n : Byte)
  | jr_NZ_e (n : Byte)
  | ld_HL_nn (nn : Word)
  | ld_AtNN_HL (nn : Word)
  | ld_H_n (n : Byte)
  | jr_Z_e (n : Byte)
  | ld_HL_AtNN (nn : Word)
  | ld_L_n (n : Byte)
  | jr_NC_e (n : Byte)
  | ld_SP_nn (nn : Word)
  | ld_AtNN_A (nn : Word)
  | ld_AtHL_n (n : Byte)
  | jr_C_e (n : Byte)
  | ld_A_AtNN (nn : Word)
  | ld_A_n (n : Byte)
  | jp_NZ_nn (nn : Word)
  | jp_nn (nn : Word)
  | call_NZ_nn (nn : Word)
  | add_A_n (n : Byte)
  | jp_Z_nn (nn : Word)
  | call_Z_nn (nn : Word)
  | call_nn (nn : Word)
  | adc_A_n (n : Byte)
  | jp_NC_nn (nn : Word)
  | out_PortN_A (n : Byte)
  | call_NC_nn (nn : Word)
  | sub_n (n : Byte)
  | jp_C_nn (nn : Word)
  | in_A_PortN (n : Byte)
  | call_C_nn (nn : Word)
  | sbc_A_n (n : Byte)
  | jp_PO_nn (nn : Word)
  | call_PO_nn (nn : Word)
  | and_n (n : Byte)
  | jp_PE_nn (nn : Word)
  | call_PE_nn (nn : Word)
  | xor_n (n : Byte)
  | jp_P_nn (nn : Word)
  | call_P_nn (nn : Word)
  | or_n (n : Byte)
  | jp_M_nn (nn : Word)
  | call_M_nn (nn : Word)
  | cp_n (n : Byte)
  -- the ED table (R174), with operands
  | ld_AtNN_BC (nn : Word)
  | ld_BC_AtNN (nn : Word)
  | ld_AtNN_DE (nn : Word)
  | ld_DE_AtNN (nn : Word)
  | ld_AtNN_HL_ed (nn : Word)
  | ld_HL_AtNN_ed (nn : Word)
  | ld_AtNN_SP (nn : Word)
  | ld_SP_AtNN (nn : Word)
  -- the DD/FD table (R175), with operands
  | ld_IX_nn (nn : Word)
  | ld_AtNN_IX (nn : Word)
  | ld_IX_AtNN (nn : Word)
  | inc_AtIXd (d : Byte)
  | dec_AtIXd (d : Byte)
  | ld_AtIXd_n (d n : Byte)
  | ld_B_AtIXd (d : Byte)
  | ld_AtIXd_B (d : Byte)
  | ld_C_AtIXd (d : Byte)
  | ld_AtIXd_C (d : Byte)
  | ld_D_AtIXd (d : Byte)
  | ld_AtIXd_D (d : Byte)
  | ld_E_AtIXd (d : Byte)
  | ld_AtIXd_E (d : Byte)
  | ld_H_AtIXd (d : Byte)
  | ld_AtIXd_H (d : Byte)
  | ld_L_AtIXd (d : Byte)
  | ld_AtIXd_L (d : Byte)
  | ld_A_AtIXd (d : Byte)
  | ld_AtIXd_A (d : Byte)
  | add_A_AtIXd (d : Byte)
  | adc_A_AtIXd (d : Byte)
  | sub_AtIXd (d : Byte)
  | sbc_A_AtIXd (d : Byte)
  | and_AtIXd (d : Byte)
  | xor_AtIXd (d : Byte)
  | or_AtIXd (d : Byte)
  | cp_AtIXd (d : Byte)
  -- the DD/FD CB forms (R176), with operands
  | rlc_AtIXd (d : Byte)
  | rrc_AtIXd (d : Byte)
  | rl_AtIXd (d : Byte)
  | rr_AtIXd (d : Byte)
  | sla_AtIXd (d : Byte)
  | sra_AtIXd (d : Byte)
  | sll_AtIXd (d : Byte)
  | srl_AtIXd (d : Byte)
  | bit_0_AtIXd (d : Byte) (z : BitVec 3)
  | bit_1_AtIXd (d : Byte) (z : BitVec 3)
  | bit_2_AtIXd (d : Byte) (z : BitVec 3)
  | bit_3_AtIXd (d : Byte) (z : BitVec 3)
  | bit_4_AtIXd (d : Byte) (z : BitVec 3)
  | bit_5_AtIXd (d : Byte) (z : BitVec 3)
  | bit_6_AtIXd (d : Byte) (z : BitVec 3)
  | bit_7_AtIXd (d : Byte) (z : BitVec 3)
  | res_0_AtIXd (d : Byte)
  | res_1_AtIXd (d : Byte)
  | res_2_AtIXd (d : Byte)
  | res_3_AtIXd (d : Byte)
  | res_4_AtIXd (d : Byte)
  | res_5_AtIXd (d : Byte)
  | res_6_AtIXd (d : Byte)
  | res_7_AtIXd (d : Byte)
  | set_0_AtIXd (d : Byte)
  | set_1_AtIXd (d : Byte)
  | set_2_AtIXd (d : Byte)
  | set_3_AtIXd (d : Byte)
  | set_4_AtIXd (d : Byte)
  | set_5_AtIXd (d : Byte)
  | set_6_AtIXd (d : Byte)
  | set_7_AtIXd (d : Byte)
  -- the DD/FD table (R175), with operands
  | ld_IY_nn (nn : Word)
  | ld_AtNN_IY (nn : Word)
  | ld_IY_AtNN (nn : Word)
  | inc_AtIYd (d : Byte)
  | dec_AtIYd (d : Byte)
  | ld_AtIYd_n (d n : Byte)
  | ld_B_AtIYd (d : Byte)
  | ld_AtIYd_B (d : Byte)
  | ld_C_AtIYd (d : Byte)
  | ld_AtIYd_C (d : Byte)
  | ld_D_AtIYd (d : Byte)
  | ld_AtIYd_D (d : Byte)
  | ld_E_AtIYd (d : Byte)
  | ld_AtIYd_E (d : Byte)
  | ld_H_AtIYd (d : Byte)
  | ld_AtIYd_H (d : Byte)
  | ld_L_AtIYd (d : Byte)
  | ld_AtIYd_L (d : Byte)
  | ld_A_AtIYd (d : Byte)
  | ld_AtIYd_A (d : Byte)
  | add_A_AtIYd (d : Byte)
  | adc_A_AtIYd (d : Byte)
  | sub_AtIYd (d : Byte)
  | sbc_A_AtIYd (d : Byte)
  | and_AtIYd (d : Byte)
  | xor_AtIYd (d : Byte)
  | or_AtIYd (d : Byte)
  | cp_AtIYd (d : Byte)
  -- the DD/FD CB forms (R176), with operands
  | rlc_AtIYd (d : Byte)
  | rrc_AtIYd (d : Byte)
  | rl_AtIYd (d : Byte)
  | rr_AtIYd (d : Byte)
  | sla_AtIYd (d : Byte)
  | sra_AtIYd (d : Byte)
  | sll_AtIYd (d : Byte)
  | srl_AtIYd (d : Byte)
  | bit_0_AtIYd (d : Byte) (z : BitVec 3)
  | bit_1_AtIYd (d : Byte) (z : BitVec 3)
  | bit_2_AtIYd (d : Byte) (z : BitVec 3)
  | bit_3_AtIYd (d : Byte) (z : BitVec 3)
  | bit_4_AtIYd (d : Byte) (z : BitVec 3)
  | bit_5_AtIYd (d : Byte) (z : BitVec 3)
  | bit_6_AtIYd (d : Byte) (z : BitVec 3)
  | bit_7_AtIYd (d : Byte) (z : BitVec 3)
  | res_0_AtIYd (d : Byte)
  | res_1_AtIYd (d : Byte)
  | res_2_AtIYd (d : Byte)
  | res_3_AtIYd (d : Byte)
  | res_4_AtIYd (d : Byte)
  | res_5_AtIYd (d : Byte)
  | res_6_AtIYd (d : Byte)
  | res_7_AtIYd (d : Byte)
  | set_0_AtIYd (d : Byte)
  | set_1_AtIYd (d : Byte)
  | set_2_AtIYd (d : Byte)
  | set_3_AtIYd (d : Byte)
  | set_4_AtIYd (d : Byte)
  | set_5_AtIYd (d : Byte)
  | set_6_AtIYd (d : Byte)
  | set_7_AtIYd (d : Byte)
  -- the main table (30_encoding.md R172), without operands
  | nop
  | ld_AtBC_A
  | inc_BC
  | inc_B
  | dec_B
  | rlca
  | ex_AF_AF
  | add_HL_BC
  | ld_A_AtBC
  | dec_BC
  | inc_C
  | dec_C
  | rrca
  | ld_AtDE_A
  | inc_DE
  | inc_D
  | dec_D
  | rla
  | add_HL_DE
  | ld_A_AtDE
  | dec_DE
  | inc_E
  | dec_E
  | rra
  | inc_HL
  | inc_H
  | dec_H
  | daa
  | add_HL_HL
  | dec_HL
  | inc_L
  | dec_L
  | cpl
  | inc_SP
  | inc_AtHL
  | dec_AtHL
  | scf
  | add_HL_SP
  | dec_SP
  | inc_A
  | dec_A
  | ccf
  | ld_B_B
  | ld_B_C
  | ld_B_D
  | ld_B_E
  | ld_B_H
  | ld_B_L
  | ld_B_AtHL
  | ld_B_A
  | ld_C_B
  | ld_C_C
  | ld_C_D
  | ld_C_E
  | ld_C_H
  | ld_C_L
  | ld_C_AtHL
  | ld_C_A
  | ld_D_B
  | ld_D_C
  | ld_D_D
  | ld_D_E
  | ld_D_H
  | ld_D_L
  | ld_D_AtHL
  | ld_D_A
  | ld_E_B
  | ld_E_C
  | ld_E_D
  | ld_E_E
  | ld_E_H
  | ld_E_L
  | ld_E_AtHL
  | ld_E_A
  | ld_H_B
  | ld_H_C
  | ld_H_D
  | ld_H_E
  | ld_H_H
  | ld_H_L
  | ld_H_AtHL
  | ld_H_A
  | ld_L_B
  | ld_L_C
  | ld_L_D
  | ld_L_E
  | ld_L_H
  | ld_L_L
  | ld_L_AtHL
  | ld_L_A
  | ld_AtHL_B
  | ld_AtHL_C
  | ld_AtHL_D
  | ld_AtHL_E
  | ld_AtHL_H
  | ld_AtHL_L
  | halt
  | ld_AtHL_A
  | ld_A_B
  | ld_A_C
  | ld_A_D
  | ld_A_E
  | ld_A_H
  | ld_A_L
  | ld_A_AtHL
  | ld_A_A
  | add_A_B
  | add_A_C
  | add_A_D
  | add_A_E
  | add_A_H
  | add_A_L
  | add_A_AtHL
  | add_A_A
  | adc_A_B
  | adc_A_C
  | adc_A_D
  | adc_A_E
  | adc_A_H
  | adc_A_L
  | adc_A_AtHL
  | adc_A_A
  | sub_B
  | sub_C
  | sub_D
  | sub_E
  | sub_H
  | sub_L
  | sub_AtHL
  | sub_A
  | sbc_A_B
  | sbc_A_C
  | sbc_A_D
  | sbc_A_E
  | sbc_A_H
  | sbc_A_L
  | sbc_A_AtHL
  | sbc_A_A
  | and_B
  | and_C
  | and_D
  | and_E
  | and_H
  | and_L
  | and_AtHL
  | and_A
  | xor_B
  | xor_C
  | xor_D
  | xor_E
  | xor_H
  | xor_L
  | xor_AtHL
  | xor_A
  | or_B
  | or_C
  | or_D
  | or_E
  | or_H
  | or_L
  | or_AtHL
  | or_A
  | cp_B
  | cp_C
  | cp_D
  | cp_E
  | cp_H
  | cp_L
  | cp_AtHL
  | cp_A
  | ret_NZ
  | pop_BC
  | push_BC
  | rst_00
  | ret_Z
  | ret
  | rst_08
  | ret_NC
  | pop_DE
  | push_DE
  | rst_10
  | ret_C
  | exx
  | rst_18
  | ret_PO
  | pop_HL
  | ex_AtSP_HL
  | push_HL
  | rst_20
  | ret_PE
  | jp_AtHL
  | ex_DE_HL
  | rst_28
  | ret_P
  | pop_AF
  | di
  | push_AF
  | rst_30
  | ret_M
  | ld_SP_HL
  | ei
  | rst_38
  -- the CB table (R173), without operands
  | rlc_B
  | rlc_C
  | rlc_D
  | rlc_E
  | rlc_H
  | rlc_L
  | rlc_AtHL
  | rlc_A
  | rrc_B
  | rrc_C
  | rrc_D
  | rrc_E
  | rrc_H
  | rrc_L
  | rrc_AtHL
  | rrc_A
  | rl_B
  | rl_C
  | rl_D
  | rl_E
  | rl_H
  | rl_L
  | rl_AtHL
  | rl_A
  | rr_B
  | rr_C
  | rr_D
  | rr_E
  | rr_H
  | rr_L
  | rr_AtHL
  | rr_A
  | sla_B
  | sla_C
  | sla_D
  | sla_E
  | sla_H
  | sla_L
  | sla_AtHL
  | sla_A
  | sra_B
  | sra_C
  | sra_D
  | sra_E
  | sra_H
  | sra_L
  | sra_AtHL
  | sra_A
  | sll_B
  | sll_C
  | sll_D
  | sll_E
  | sll_H
  | sll_L
  | sll_AtHL
  | sll_A
  | srl_B
  | srl_C
  | srl_D
  | srl_E
  | srl_H
  | srl_L
  | srl_AtHL
  | srl_A
  | bit_0_B
  | bit_0_C
  | bit_0_D
  | bit_0_E
  | bit_0_H
  | bit_0_L
  | bit_0_AtHL
  | bit_0_A
  | bit_1_B
  | bit_1_C
  | bit_1_D
  | bit_1_E
  | bit_1_H
  | bit_1_L
  | bit_1_AtHL
  | bit_1_A
  | bit_2_B
  | bit_2_C
  | bit_2_D
  | bit_2_E
  | bit_2_H
  | bit_2_L
  | bit_2_AtHL
  | bit_2_A
  | bit_3_B
  | bit_3_C
  | bit_3_D
  | bit_3_E
  | bit_3_H
  | bit_3_L
  | bit_3_AtHL
  | bit_3_A
  | bit_4_B
  | bit_4_C
  | bit_4_D
  | bit_4_E
  | bit_4_H
  | bit_4_L
  | bit_4_AtHL
  | bit_4_A
  | bit_5_B
  | bit_5_C
  | bit_5_D
  | bit_5_E
  | bit_5_H
  | bit_5_L
  | bit_5_AtHL
  | bit_5_A
  | bit_6_B
  | bit_6_C
  | bit_6_D
  | bit_6_E
  | bit_6_H
  | bit_6_L
  | bit_6_AtHL
  | bit_6_A
  | bit_7_B
  | bit_7_C
  | bit_7_D
  | bit_7_E
  | bit_7_H
  | bit_7_L
  | bit_7_AtHL
  | bit_7_A
  | res_0_B
  | res_0_C
  | res_0_D
  | res_0_E
  | res_0_H
  | res_0_L
  | res_0_AtHL
  | res_0_A
  | res_1_B
  | res_1_C
  | res_1_D
  | res_1_E
  | res_1_H
  | res_1_L
  | res_1_AtHL
  | res_1_A
  | res_2_B
  | res_2_C
  | res_2_D
  | res_2_E
  | res_2_H
  | res_2_L
  | res_2_AtHL
  | res_2_A
  | res_3_B
  | res_3_C
  | res_3_D
  | res_3_E
  | res_3_H
  | res_3_L
  | res_3_AtHL
  | res_3_A
  | res_4_B
  | res_4_C
  | res_4_D
  | res_4_E
  | res_4_H
  | res_4_L
  | res_4_AtHL
  | res_4_A
  | res_5_B
  | res_5_C
  | res_5_D
  | res_5_E
  | res_5_H
  | res_5_L
  | res_5_AtHL
  | res_5_A
  | res_6_B
  | res_6_C
  | res_6_D
  | res_6_E
  | res_6_H
  | res_6_L
  | res_6_AtHL
  | res_6_A
  | res_7_B
  | res_7_C
  | res_7_D
  | res_7_E
  | res_7_H
  | res_7_L
  | res_7_AtHL
  | res_7_A
  | set_0_B
  | set_0_C
  | set_0_D
  | set_0_E
  | set_0_H
  | set_0_L
  | set_0_AtHL
  | set_0_A
  | set_1_B
  | set_1_C
  | set_1_D
  | set_1_E
  | set_1_H
  | set_1_L
  | set_1_AtHL
  | set_1_A
  | set_2_B
  | set_2_C
  | set_2_D
  | set_2_E
  | set_2_H
  | set_2_L
  | set_2_AtHL
  | set_2_A
  | set_3_B
  | set_3_C
  | set_3_D
  | set_3_E
  | set_3_H
  | set_3_L
  | set_3_AtHL
  | set_3_A
  | set_4_B
  | set_4_C
  | set_4_D
  | set_4_E
  | set_4_H
  | set_4_L
  | set_4_AtHL
  | set_4_A
  | set_5_B
  | set_5_C
  | set_5_D
  | set_5_E
  | set_5_H
  | set_5_L
  | set_5_AtHL
  | set_5_A
  | set_6_B
  | set_6_C
  | set_6_D
  | set_6_E
  | set_6_H
  | set_6_L
  | set_6_AtHL
  | set_6_A
  | set_7_B
  | set_7_C
  | set_7_D
  | set_7_E
  | set_7_H
  | set_7_L
  | set_7_AtHL
  | set_7_A
  -- the ED table (R174), without operands
  | in_B_PortC
  | out_PortC_B
  | in_C_PortC
  | out_PortC_C
  | in_D_PortC
  | out_PortC_D
  | in_E_PortC
  | out_PortC_E
  | in_H_PortC
  | out_PortC_H
  | in_L_PortC
  | out_PortC_L
  | in_A_PortC
  | out_PortC_A
  | sbc_HL_BC
  | adc_HL_BC
  | sbc_HL_DE
  | adc_HL_DE
  | sbc_HL_HL
  | adc_HL_HL
  | sbc_HL_SP
  | adc_HL_SP
  | neg
  | retn
  | reti
  | im_0
  | im_1
  | im_2
  | ld_I_A
  | ld_R_A
  | ld_A_I
  | ld_A_R
  | rrd
  | rld
  | ldi
  | ldir
  | ldd
  | lddr
  | cpi
  | cpir
  | cpd
  | cpdr
  | ini
  | inir
  | ind
  | indr
  | outi
  | otir
  | outd
  | otdr
  -- the DD/FD table (R175), without operands
  | add_IX_BC
  | add_IX_DE
  | add_IX_IX
  | add_IX_SP
  | inc_IX
  | dec_IX
  | pop_IX
  | ex_AtSP_IX
  | push_IX
  | jp_AtIX
  | ld_SP_IX
  | add_IY_BC
  | add_IY_DE
  | add_IY_IY
  | add_IY_SP
  | inc_IY
  | dec_IY
  | pop_IY
  | ex_AtSP_IY
  | push_IY
  | jp_AtIY
  | ld_SP_IY
  deriving DecidableEq, Repr

/-- The form and operands of an instruction. -/
def Instr.op (i : Instr) : Op :=
  match i with
  | .ld_BC_nn nn => .ldPairImm .bc nn
  | .ld_B_n n => .ldRegImm .b n
  | .ld_C_n n => .ldRegImm .c n
  | .djnz_e n => .djnz n
  | .ld_DE_nn nn => .ldPairImm .de nn
  | .ld_D_n n => .ldRegImm .d n
  | .jr_e n => .jr n
  | .ld_E_n n => .ldRegImm .e n
  | .jr_NZ_e n => .jrCond .nz n
  | .ld_HL_nn nn => .ldPairImm .hl nn
  | .ld_AtNN_HL nn => .ldMemHL nn
  | .ld_H_n n => .ldRegImm .h n
  | .jr_Z_e n => .jrCond .z n
  | .ld_HL_AtNN nn => .ldHLMem nn
  | .ld_L_n n => .ldRegImm .l n
  | .jr_NC_e n => .jrCond .nc n
  | .ld_SP_nn nn => .ldPairImm .sp nn
  | .ld_AtNN_A nn => .ldMemA nn
  | .ld_AtHL_n n => .ldHLImm n
  | .jr_C_e n => .jrCond .c n
  | .ld_A_AtNN nn => .ldAMem nn
  | .ld_A_n n => .ldRegImm .a n
  | .jp_NZ_nn nn => .jpCond .nz nn
  | .jp_nn nn => .jp nn
  | .call_NZ_nn nn => .callCond .nz nn
  | .add_A_n n => .alu .add (.imm n)
  | .jp_Z_nn nn => .jpCond .z nn
  | .call_Z_nn nn => .callCond .z nn
  | .call_nn nn => .call nn
  | .adc_A_n n => .alu .adc (.imm n)
  | .jp_NC_nn nn => .jpCond .nc nn
  | .out_PortN_A n => .outPortA n
  | .call_NC_nn nn => .callCond .nc nn
  | .sub_n n => .alu .sub (.imm n)
  | .jp_C_nn nn => .jpCond .c nn
  | .in_A_PortN n => .inAPort n
  | .call_C_nn nn => .callCond .c nn
  | .sbc_A_n n => .alu .sbc (.imm n)
  | .jp_PO_nn nn => .jpCond .po nn
  | .call_PO_nn nn => .callCond .po nn
  | .and_n n => .alu .and (.imm n)
  | .jp_PE_nn nn => .jpCond .pe nn
  | .call_PE_nn nn => .callCond .pe nn
  | .xor_n n => .alu .xor (.imm n)
  | .jp_P_nn nn => .jpCond .p nn
  | .call_P_nn nn => .callCond .p nn
  | .or_n n => .alu .or (.imm n)
  | .jp_M_nn nn => .jpCond .m nn
  | .call_M_nn nn => .callCond .m nn
  | .cp_n n => .alu .cp (.imm n)
  | .ld_AtNN_BC nn => .ldMemPair nn .bc
  | .ld_BC_AtNN nn => .ldPairMem .bc nn
  | .ld_AtNN_DE nn => .ldMemPair nn .de
  | .ld_DE_AtNN nn => .ldPairMem .de nn
  | .ld_AtNN_HL_ed nn => .ldMemPair nn .hl
  | .ld_HL_AtNN_ed nn => .ldPairMem .hl nn
  | .ld_AtNN_SP nn => .ldMemPair nn .sp
  | .ld_SP_AtNN nn => .ldPairMem .sp nn
  | .ld_IX_nn nn => .ldIdxImm .ix nn
  | .ld_AtNN_IX nn => .ldMemIdx nn .ix
  | .ld_IX_AtNN nn => .ldIdxMem .ix nn
  | .inc_AtIXd d => .incLoc (.atIdx .ix d)
  | .dec_AtIXd d => .decLoc (.atIdx .ix d)
  | .ld_AtIXd_n d n => .ldIdxNum .ix d n
  | .ld_B_AtIXd d => .ldRegIdx .b .ix d
  | .ld_AtIXd_B d => .ldIdxReg .ix d .b
  | .ld_C_AtIXd d => .ldRegIdx .c .ix d
  | .ld_AtIXd_C d => .ldIdxReg .ix d .c
  | .ld_D_AtIXd d => .ldRegIdx .d .ix d
  | .ld_AtIXd_D d => .ldIdxReg .ix d .d
  | .ld_E_AtIXd d => .ldRegIdx .e .ix d
  | .ld_AtIXd_E d => .ldIdxReg .ix d .e
  | .ld_H_AtIXd d => .ldRegIdx .h .ix d
  | .ld_AtIXd_H d => .ldIdxReg .ix d .h
  | .ld_L_AtIXd d => .ldRegIdx .l .ix d
  | .ld_AtIXd_L d => .ldIdxReg .ix d .l
  | .ld_A_AtIXd d => .ldRegIdx .a .ix d
  | .ld_AtIXd_A d => .ldIdxReg .ix d .a
  | .add_A_AtIXd d => .alu .add (.atIdx .ix d)
  | .adc_A_AtIXd d => .alu .adc (.atIdx .ix d)
  | .sub_AtIXd d => .alu .sub (.atIdx .ix d)
  | .sbc_A_AtIXd d => .alu .sbc (.atIdx .ix d)
  | .and_AtIXd d => .alu .and (.atIdx .ix d)
  | .xor_AtIXd d => .alu .xor (.atIdx .ix d)
  | .or_AtIXd d => .alu .or (.atIdx .ix d)
  | .cp_AtIXd d => .alu .cp (.atIdx .ix d)
  | .rlc_AtIXd d => .rot .rlc (.atIdx .ix d)
  | .rrc_AtIXd d => .rot .rrc (.atIdx .ix d)
  | .rl_AtIXd d => .rot .rl (.atIdx .ix d)
  | .rr_AtIXd d => .rot .rr (.atIdx .ix d)
  | .sla_AtIXd d => .rot .sla (.atIdx .ix d)
  | .sra_AtIXd d => .rot .sra (.atIdx .ix d)
  | .sll_AtIXd d => .rot .sll (.atIdx .ix d)
  | .srl_AtIXd d => .rot .srl (.atIdx .ix d)
  | .bit_0_AtIXd d z => .bitTestIdx 0 .ix d z
  | .bit_1_AtIXd d z => .bitTestIdx 1 .ix d z
  | .bit_2_AtIXd d z => .bitTestIdx 2 .ix d z
  | .bit_3_AtIXd d z => .bitTestIdx 3 .ix d z
  | .bit_4_AtIXd d z => .bitTestIdx 4 .ix d z
  | .bit_5_AtIXd d z => .bitTestIdx 5 .ix d z
  | .bit_6_AtIXd d z => .bitTestIdx 6 .ix d z
  | .bit_7_AtIXd d z => .bitTestIdx 7 .ix d z
  | .res_0_AtIXd d => .resBit 0 (.atIdx .ix d)
  | .res_1_AtIXd d => .resBit 1 (.atIdx .ix d)
  | .res_2_AtIXd d => .resBit 2 (.atIdx .ix d)
  | .res_3_AtIXd d => .resBit 3 (.atIdx .ix d)
  | .res_4_AtIXd d => .resBit 4 (.atIdx .ix d)
  | .res_5_AtIXd d => .resBit 5 (.atIdx .ix d)
  | .res_6_AtIXd d => .resBit 6 (.atIdx .ix d)
  | .res_7_AtIXd d => .resBit 7 (.atIdx .ix d)
  | .set_0_AtIXd d => .setBit 0 (.atIdx .ix d)
  | .set_1_AtIXd d => .setBit 1 (.atIdx .ix d)
  | .set_2_AtIXd d => .setBit 2 (.atIdx .ix d)
  | .set_3_AtIXd d => .setBit 3 (.atIdx .ix d)
  | .set_4_AtIXd d => .setBit 4 (.atIdx .ix d)
  | .set_5_AtIXd d => .setBit 5 (.atIdx .ix d)
  | .set_6_AtIXd d => .setBit 6 (.atIdx .ix d)
  | .set_7_AtIXd d => .setBit 7 (.atIdx .ix d)
  | .ld_IY_nn nn => .ldIdxImm .iy nn
  | .ld_AtNN_IY nn => .ldMemIdx nn .iy
  | .ld_IY_AtNN nn => .ldIdxMem .iy nn
  | .inc_AtIYd d => .incLoc (.atIdx .iy d)
  | .dec_AtIYd d => .decLoc (.atIdx .iy d)
  | .ld_AtIYd_n d n => .ldIdxNum .iy d n
  | .ld_B_AtIYd d => .ldRegIdx .b .iy d
  | .ld_AtIYd_B d => .ldIdxReg .iy d .b
  | .ld_C_AtIYd d => .ldRegIdx .c .iy d
  | .ld_AtIYd_C d => .ldIdxReg .iy d .c
  | .ld_D_AtIYd d => .ldRegIdx .d .iy d
  | .ld_AtIYd_D d => .ldIdxReg .iy d .d
  | .ld_E_AtIYd d => .ldRegIdx .e .iy d
  | .ld_AtIYd_E d => .ldIdxReg .iy d .e
  | .ld_H_AtIYd d => .ldRegIdx .h .iy d
  | .ld_AtIYd_H d => .ldIdxReg .iy d .h
  | .ld_L_AtIYd d => .ldRegIdx .l .iy d
  | .ld_AtIYd_L d => .ldIdxReg .iy d .l
  | .ld_A_AtIYd d => .ldRegIdx .a .iy d
  | .ld_AtIYd_A d => .ldIdxReg .iy d .a
  | .add_A_AtIYd d => .alu .add (.atIdx .iy d)
  | .adc_A_AtIYd d => .alu .adc (.atIdx .iy d)
  | .sub_AtIYd d => .alu .sub (.atIdx .iy d)
  | .sbc_A_AtIYd d => .alu .sbc (.atIdx .iy d)
  | .and_AtIYd d => .alu .and (.atIdx .iy d)
  | .xor_AtIYd d => .alu .xor (.atIdx .iy d)
  | .or_AtIYd d => .alu .or (.atIdx .iy d)
  | .cp_AtIYd d => .alu .cp (.atIdx .iy d)
  | .rlc_AtIYd d => .rot .rlc (.atIdx .iy d)
  | .rrc_AtIYd d => .rot .rrc (.atIdx .iy d)
  | .rl_AtIYd d => .rot .rl (.atIdx .iy d)
  | .rr_AtIYd d => .rot .rr (.atIdx .iy d)
  | .sla_AtIYd d => .rot .sla (.atIdx .iy d)
  | .sra_AtIYd d => .rot .sra (.atIdx .iy d)
  | .sll_AtIYd d => .rot .sll (.atIdx .iy d)
  | .srl_AtIYd d => .rot .srl (.atIdx .iy d)
  | .bit_0_AtIYd d z => .bitTestIdx 0 .iy d z
  | .bit_1_AtIYd d z => .bitTestIdx 1 .iy d z
  | .bit_2_AtIYd d z => .bitTestIdx 2 .iy d z
  | .bit_3_AtIYd d z => .bitTestIdx 3 .iy d z
  | .bit_4_AtIYd d z => .bitTestIdx 4 .iy d z
  | .bit_5_AtIYd d z => .bitTestIdx 5 .iy d z
  | .bit_6_AtIYd d z => .bitTestIdx 6 .iy d z
  | .bit_7_AtIYd d z => .bitTestIdx 7 .iy d z
  | .res_0_AtIYd d => .resBit 0 (.atIdx .iy d)
  | .res_1_AtIYd d => .resBit 1 (.atIdx .iy d)
  | .res_2_AtIYd d => .resBit 2 (.atIdx .iy d)
  | .res_3_AtIYd d => .resBit 3 (.atIdx .iy d)
  | .res_4_AtIYd d => .resBit 4 (.atIdx .iy d)
  | .res_5_AtIYd d => .resBit 5 (.atIdx .iy d)
  | .res_6_AtIYd d => .resBit 6 (.atIdx .iy d)
  | .res_7_AtIYd d => .resBit 7 (.atIdx .iy d)
  | .set_0_AtIYd d => .setBit 0 (.atIdx .iy d)
  | .set_1_AtIYd d => .setBit 1 (.atIdx .iy d)
  | .set_2_AtIYd d => .setBit 2 (.atIdx .iy d)
  | .set_3_AtIYd d => .setBit 3 (.atIdx .iy d)
  | .set_4_AtIYd d => .setBit 4 (.atIdx .iy d)
  | .set_5_AtIYd d => .setBit 5 (.atIdx .iy d)
  | .set_6_AtIYd d => .setBit 6 (.atIdx .iy d)
  | .set_7_AtIYd d => .setBit 7 (.atIdx .iy d)
  | .nop => .nop
  | .ld_AtBC_A => .ldBCA
  | .inc_BC => .incPair .bc
  | .inc_B => .incLoc (.reg .b)
  | .dec_B => .decLoc (.reg .b)
  | .rlca => .rlca
  | .ex_AF_AF => .exAF
  | .add_HL_BC => .addHL .bc
  | .ld_A_AtBC => .ldABC
  | .dec_BC => .decPair .bc
  | .inc_C => .incLoc (.reg .c)
  | .dec_C => .decLoc (.reg .c)
  | .rrca => .rrca
  | .ld_AtDE_A => .ldDEA
  | .inc_DE => .incPair .de
  | .inc_D => .incLoc (.reg .d)
  | .dec_D => .decLoc (.reg .d)
  | .rla => .rla
  | .add_HL_DE => .addHL .de
  | .ld_A_AtDE => .ldADE
  | .dec_DE => .decPair .de
  | .inc_E => .incLoc (.reg .e)
  | .dec_E => .decLoc (.reg .e)
  | .rra => .rra
  | .inc_HL => .incPair .hl
  | .inc_H => .incLoc (.reg .h)
  | .dec_H => .decLoc (.reg .h)
  | .daa => .daa
  | .add_HL_HL => .addHL .hl
  | .dec_HL => .decPair .hl
  | .inc_L => .incLoc (.reg .l)
  | .dec_L => .decLoc (.reg .l)
  | .cpl => .cpl
  | .inc_SP => .incPair .sp
  | .inc_AtHL => .incLoc .atHL
  | .dec_AtHL => .decLoc .atHL
  | .scf => .scf
  | .add_HL_SP => .addHL .sp
  | .dec_SP => .decPair .sp
  | .inc_A => .incLoc (.reg .a)
  | .dec_A => .decLoc (.reg .a)
  | .ccf => .ccf
  | .ld_B_B => .ldRegReg .b .b
  | .ld_B_C => .ldRegReg .b .c
  | .ld_B_D => .ldRegReg .b .d
  | .ld_B_E => .ldRegReg .b .e
  | .ld_B_H => .ldRegReg .b .h
  | .ld_B_L => .ldRegReg .b .l
  | .ld_B_AtHL => .ldRegHL .b
  | .ld_B_A => .ldRegReg .b .a
  | .ld_C_B => .ldRegReg .c .b
  | .ld_C_C => .ldRegReg .c .c
  | .ld_C_D => .ldRegReg .c .d
  | .ld_C_E => .ldRegReg .c .e
  | .ld_C_H => .ldRegReg .c .h
  | .ld_C_L => .ldRegReg .c .l
  | .ld_C_AtHL => .ldRegHL .c
  | .ld_C_A => .ldRegReg .c .a
  | .ld_D_B => .ldRegReg .d .b
  | .ld_D_C => .ldRegReg .d .c
  | .ld_D_D => .ldRegReg .d .d
  | .ld_D_E => .ldRegReg .d .e
  | .ld_D_H => .ldRegReg .d .h
  | .ld_D_L => .ldRegReg .d .l
  | .ld_D_AtHL => .ldRegHL .d
  | .ld_D_A => .ldRegReg .d .a
  | .ld_E_B => .ldRegReg .e .b
  | .ld_E_C => .ldRegReg .e .c
  | .ld_E_D => .ldRegReg .e .d
  | .ld_E_E => .ldRegReg .e .e
  | .ld_E_H => .ldRegReg .e .h
  | .ld_E_L => .ldRegReg .e .l
  | .ld_E_AtHL => .ldRegHL .e
  | .ld_E_A => .ldRegReg .e .a
  | .ld_H_B => .ldRegReg .h .b
  | .ld_H_C => .ldRegReg .h .c
  | .ld_H_D => .ldRegReg .h .d
  | .ld_H_E => .ldRegReg .h .e
  | .ld_H_H => .ldRegReg .h .h
  | .ld_H_L => .ldRegReg .h .l
  | .ld_H_AtHL => .ldRegHL .h
  | .ld_H_A => .ldRegReg .h .a
  | .ld_L_B => .ldRegReg .l .b
  | .ld_L_C => .ldRegReg .l .c
  | .ld_L_D => .ldRegReg .l .d
  | .ld_L_E => .ldRegReg .l .e
  | .ld_L_H => .ldRegReg .l .h
  | .ld_L_L => .ldRegReg .l .l
  | .ld_L_AtHL => .ldRegHL .l
  | .ld_L_A => .ldRegReg .l .a
  | .ld_AtHL_B => .ldHLReg .b
  | .ld_AtHL_C => .ldHLReg .c
  | .ld_AtHL_D => .ldHLReg .d
  | .ld_AtHL_E => .ldHLReg .e
  | .ld_AtHL_H => .ldHLReg .h
  | .ld_AtHL_L => .ldHLReg .l
  | .halt => .halt
  | .ld_AtHL_A => .ldHLReg .a
  | .ld_A_B => .ldRegReg .a .b
  | .ld_A_C => .ldRegReg .a .c
  | .ld_A_D => .ldRegReg .a .d
  | .ld_A_E => .ldRegReg .a .e
  | .ld_A_H => .ldRegReg .a .h
  | .ld_A_L => .ldRegReg .a .l
  | .ld_A_AtHL => .ldRegHL .a
  | .ld_A_A => .ldRegReg .a .a
  | .add_A_B => .alu .add (.reg .b)
  | .add_A_C => .alu .add (.reg .c)
  | .add_A_D => .alu .add (.reg .d)
  | .add_A_E => .alu .add (.reg .e)
  | .add_A_H => .alu .add (.reg .h)
  | .add_A_L => .alu .add (.reg .l)
  | .add_A_AtHL => .alu .add .atHL
  | .add_A_A => .alu .add (.reg .a)
  | .adc_A_B => .alu .adc (.reg .b)
  | .adc_A_C => .alu .adc (.reg .c)
  | .adc_A_D => .alu .adc (.reg .d)
  | .adc_A_E => .alu .adc (.reg .e)
  | .adc_A_H => .alu .adc (.reg .h)
  | .adc_A_L => .alu .adc (.reg .l)
  | .adc_A_AtHL => .alu .adc .atHL
  | .adc_A_A => .alu .adc (.reg .a)
  | .sub_B => .alu .sub (.reg .b)
  | .sub_C => .alu .sub (.reg .c)
  | .sub_D => .alu .sub (.reg .d)
  | .sub_E => .alu .sub (.reg .e)
  | .sub_H => .alu .sub (.reg .h)
  | .sub_L => .alu .sub (.reg .l)
  | .sub_AtHL => .alu .sub .atHL
  | .sub_A => .alu .sub (.reg .a)
  | .sbc_A_B => .alu .sbc (.reg .b)
  | .sbc_A_C => .alu .sbc (.reg .c)
  | .sbc_A_D => .alu .sbc (.reg .d)
  | .sbc_A_E => .alu .sbc (.reg .e)
  | .sbc_A_H => .alu .sbc (.reg .h)
  | .sbc_A_L => .alu .sbc (.reg .l)
  | .sbc_A_AtHL => .alu .sbc .atHL
  | .sbc_A_A => .alu .sbc (.reg .a)
  | .and_B => .alu .and (.reg .b)
  | .and_C => .alu .and (.reg .c)
  | .and_D => .alu .and (.reg .d)
  | .and_E => .alu .and (.reg .e)
  | .and_H => .alu .and (.reg .h)
  | .and_L => .alu .and (.reg .l)
  | .and_AtHL => .alu .and .atHL
  | .and_A => .alu .and (.reg .a)
  | .xor_B => .alu .xor (.reg .b)
  | .xor_C => .alu .xor (.reg .c)
  | .xor_D => .alu .xor (.reg .d)
  | .xor_E => .alu .xor (.reg .e)
  | .xor_H => .alu .xor (.reg .h)
  | .xor_L => .alu .xor (.reg .l)
  | .xor_AtHL => .alu .xor .atHL
  | .xor_A => .alu .xor (.reg .a)
  | .or_B => .alu .or (.reg .b)
  | .or_C => .alu .or (.reg .c)
  | .or_D => .alu .or (.reg .d)
  | .or_E => .alu .or (.reg .e)
  | .or_H => .alu .or (.reg .h)
  | .or_L => .alu .or (.reg .l)
  | .or_AtHL => .alu .or .atHL
  | .or_A => .alu .or (.reg .a)
  | .cp_B => .alu .cp (.reg .b)
  | .cp_C => .alu .cp (.reg .c)
  | .cp_D => .alu .cp (.reg .d)
  | .cp_E => .alu .cp (.reg .e)
  | .cp_H => .alu .cp (.reg .h)
  | .cp_L => .alu .cp (.reg .l)
  | .cp_AtHL => .alu .cp .atHL
  | .cp_A => .alu .cp (.reg .a)
  | .ret_NZ => .retCond .nz
  | .pop_BC => .pop .bc
  | .push_BC => .push .bc
  | .rst_00 => .rst 0
  | .ret_Z => .retCond .z
  | .ret => .ret
  | .rst_08 => .rst 1
  | .ret_NC => .retCond .nc
  | .pop_DE => .pop .de
  | .push_DE => .push .de
  | .rst_10 => .rst 2
  | .ret_C => .retCond .c
  | .exx => .exx
  | .rst_18 => .rst 3
  | .ret_PO => .retCond .po
  | .pop_HL => .pop .hl
  | .ex_AtSP_HL => .exSPHL
  | .push_HL => .push .hl
  | .rst_20 => .rst 4
  | .ret_PE => .retCond .pe
  | .jp_AtHL => .jpHL
  | .ex_DE_HL => .exDEHL
  | .rst_28 => .rst 5
  | .ret_P => .retCond .p
  | .pop_AF => .pop .af
  | .di => .di
  | .push_AF => .push .af
  | .rst_30 => .rst 6
  | .ret_M => .retCond .m
  | .ld_SP_HL => .ldSPHL
  | .ei => .ei
  | .rst_38 => .rst 7
  | .rlc_B => .rot .rlc (.reg .b)
  | .rlc_C => .rot .rlc (.reg .c)
  | .rlc_D => .rot .rlc (.reg .d)
  | .rlc_E => .rot .rlc (.reg .e)
  | .rlc_H => .rot .rlc (.reg .h)
  | .rlc_L => .rot .rlc (.reg .l)
  | .rlc_AtHL => .rot .rlc .atHL
  | .rlc_A => .rot .rlc (.reg .a)
  | .rrc_B => .rot .rrc (.reg .b)
  | .rrc_C => .rot .rrc (.reg .c)
  | .rrc_D => .rot .rrc (.reg .d)
  | .rrc_E => .rot .rrc (.reg .e)
  | .rrc_H => .rot .rrc (.reg .h)
  | .rrc_L => .rot .rrc (.reg .l)
  | .rrc_AtHL => .rot .rrc .atHL
  | .rrc_A => .rot .rrc (.reg .a)
  | .rl_B => .rot .rl (.reg .b)
  | .rl_C => .rot .rl (.reg .c)
  | .rl_D => .rot .rl (.reg .d)
  | .rl_E => .rot .rl (.reg .e)
  | .rl_H => .rot .rl (.reg .h)
  | .rl_L => .rot .rl (.reg .l)
  | .rl_AtHL => .rot .rl .atHL
  | .rl_A => .rot .rl (.reg .a)
  | .rr_B => .rot .rr (.reg .b)
  | .rr_C => .rot .rr (.reg .c)
  | .rr_D => .rot .rr (.reg .d)
  | .rr_E => .rot .rr (.reg .e)
  | .rr_H => .rot .rr (.reg .h)
  | .rr_L => .rot .rr (.reg .l)
  | .rr_AtHL => .rot .rr .atHL
  | .rr_A => .rot .rr (.reg .a)
  | .sla_B => .rot .sla (.reg .b)
  | .sla_C => .rot .sla (.reg .c)
  | .sla_D => .rot .sla (.reg .d)
  | .sla_E => .rot .sla (.reg .e)
  | .sla_H => .rot .sla (.reg .h)
  | .sla_L => .rot .sla (.reg .l)
  | .sla_AtHL => .rot .sla .atHL
  | .sla_A => .rot .sla (.reg .a)
  | .sra_B => .rot .sra (.reg .b)
  | .sra_C => .rot .sra (.reg .c)
  | .sra_D => .rot .sra (.reg .d)
  | .sra_E => .rot .sra (.reg .e)
  | .sra_H => .rot .sra (.reg .h)
  | .sra_L => .rot .sra (.reg .l)
  | .sra_AtHL => .rot .sra .atHL
  | .sra_A => .rot .sra (.reg .a)
  | .sll_B => .rot .sll (.reg .b)
  | .sll_C => .rot .sll (.reg .c)
  | .sll_D => .rot .sll (.reg .d)
  | .sll_E => .rot .sll (.reg .e)
  | .sll_H => .rot .sll (.reg .h)
  | .sll_L => .rot .sll (.reg .l)
  | .sll_AtHL => .rot .sll .atHL
  | .sll_A => .rot .sll (.reg .a)
  | .srl_B => .rot .srl (.reg .b)
  | .srl_C => .rot .srl (.reg .c)
  | .srl_D => .rot .srl (.reg .d)
  | .srl_E => .rot .srl (.reg .e)
  | .srl_H => .rot .srl (.reg .h)
  | .srl_L => .rot .srl (.reg .l)
  | .srl_AtHL => .rot .srl .atHL
  | .srl_A => .rot .srl (.reg .a)
  | .bit_0_B => .bitTestReg 0 .b
  | .bit_0_C => .bitTestReg 0 .c
  | .bit_0_D => .bitTestReg 0 .d
  | .bit_0_E => .bitTestReg 0 .e
  | .bit_0_H => .bitTestReg 0 .h
  | .bit_0_L => .bitTestReg 0 .l
  | .bit_0_AtHL => .bitTestHL 0
  | .bit_0_A => .bitTestReg 0 .a
  | .bit_1_B => .bitTestReg 1 .b
  | .bit_1_C => .bitTestReg 1 .c
  | .bit_1_D => .bitTestReg 1 .d
  | .bit_1_E => .bitTestReg 1 .e
  | .bit_1_H => .bitTestReg 1 .h
  | .bit_1_L => .bitTestReg 1 .l
  | .bit_1_AtHL => .bitTestHL 1
  | .bit_1_A => .bitTestReg 1 .a
  | .bit_2_B => .bitTestReg 2 .b
  | .bit_2_C => .bitTestReg 2 .c
  | .bit_2_D => .bitTestReg 2 .d
  | .bit_2_E => .bitTestReg 2 .e
  | .bit_2_H => .bitTestReg 2 .h
  | .bit_2_L => .bitTestReg 2 .l
  | .bit_2_AtHL => .bitTestHL 2
  | .bit_2_A => .bitTestReg 2 .a
  | .bit_3_B => .bitTestReg 3 .b
  | .bit_3_C => .bitTestReg 3 .c
  | .bit_3_D => .bitTestReg 3 .d
  | .bit_3_E => .bitTestReg 3 .e
  | .bit_3_H => .bitTestReg 3 .h
  | .bit_3_L => .bitTestReg 3 .l
  | .bit_3_AtHL => .bitTestHL 3
  | .bit_3_A => .bitTestReg 3 .a
  | .bit_4_B => .bitTestReg 4 .b
  | .bit_4_C => .bitTestReg 4 .c
  | .bit_4_D => .bitTestReg 4 .d
  | .bit_4_E => .bitTestReg 4 .e
  | .bit_4_H => .bitTestReg 4 .h
  | .bit_4_L => .bitTestReg 4 .l
  | .bit_4_AtHL => .bitTestHL 4
  | .bit_4_A => .bitTestReg 4 .a
  | .bit_5_B => .bitTestReg 5 .b
  | .bit_5_C => .bitTestReg 5 .c
  | .bit_5_D => .bitTestReg 5 .d
  | .bit_5_E => .bitTestReg 5 .e
  | .bit_5_H => .bitTestReg 5 .h
  | .bit_5_L => .bitTestReg 5 .l
  | .bit_5_AtHL => .bitTestHL 5
  | .bit_5_A => .bitTestReg 5 .a
  | .bit_6_B => .bitTestReg 6 .b
  | .bit_6_C => .bitTestReg 6 .c
  | .bit_6_D => .bitTestReg 6 .d
  | .bit_6_E => .bitTestReg 6 .e
  | .bit_6_H => .bitTestReg 6 .h
  | .bit_6_L => .bitTestReg 6 .l
  | .bit_6_AtHL => .bitTestHL 6
  | .bit_6_A => .bitTestReg 6 .a
  | .bit_7_B => .bitTestReg 7 .b
  | .bit_7_C => .bitTestReg 7 .c
  | .bit_7_D => .bitTestReg 7 .d
  | .bit_7_E => .bitTestReg 7 .e
  | .bit_7_H => .bitTestReg 7 .h
  | .bit_7_L => .bitTestReg 7 .l
  | .bit_7_AtHL => .bitTestHL 7
  | .bit_7_A => .bitTestReg 7 .a
  | .res_0_B => .resBit 0 (.reg .b)
  | .res_0_C => .resBit 0 (.reg .c)
  | .res_0_D => .resBit 0 (.reg .d)
  | .res_0_E => .resBit 0 (.reg .e)
  | .res_0_H => .resBit 0 (.reg .h)
  | .res_0_L => .resBit 0 (.reg .l)
  | .res_0_AtHL => .resBit 0 .atHL
  | .res_0_A => .resBit 0 (.reg .a)
  | .res_1_B => .resBit 1 (.reg .b)
  | .res_1_C => .resBit 1 (.reg .c)
  | .res_1_D => .resBit 1 (.reg .d)
  | .res_1_E => .resBit 1 (.reg .e)
  | .res_1_H => .resBit 1 (.reg .h)
  | .res_1_L => .resBit 1 (.reg .l)
  | .res_1_AtHL => .resBit 1 .atHL
  | .res_1_A => .resBit 1 (.reg .a)
  | .res_2_B => .resBit 2 (.reg .b)
  | .res_2_C => .resBit 2 (.reg .c)
  | .res_2_D => .resBit 2 (.reg .d)
  | .res_2_E => .resBit 2 (.reg .e)
  | .res_2_H => .resBit 2 (.reg .h)
  | .res_2_L => .resBit 2 (.reg .l)
  | .res_2_AtHL => .resBit 2 .atHL
  | .res_2_A => .resBit 2 (.reg .a)
  | .res_3_B => .resBit 3 (.reg .b)
  | .res_3_C => .resBit 3 (.reg .c)
  | .res_3_D => .resBit 3 (.reg .d)
  | .res_3_E => .resBit 3 (.reg .e)
  | .res_3_H => .resBit 3 (.reg .h)
  | .res_3_L => .resBit 3 (.reg .l)
  | .res_3_AtHL => .resBit 3 .atHL
  | .res_3_A => .resBit 3 (.reg .a)
  | .res_4_B => .resBit 4 (.reg .b)
  | .res_4_C => .resBit 4 (.reg .c)
  | .res_4_D => .resBit 4 (.reg .d)
  | .res_4_E => .resBit 4 (.reg .e)
  | .res_4_H => .resBit 4 (.reg .h)
  | .res_4_L => .resBit 4 (.reg .l)
  | .res_4_AtHL => .resBit 4 .atHL
  | .res_4_A => .resBit 4 (.reg .a)
  | .res_5_B => .resBit 5 (.reg .b)
  | .res_5_C => .resBit 5 (.reg .c)
  | .res_5_D => .resBit 5 (.reg .d)
  | .res_5_E => .resBit 5 (.reg .e)
  | .res_5_H => .resBit 5 (.reg .h)
  | .res_5_L => .resBit 5 (.reg .l)
  | .res_5_AtHL => .resBit 5 .atHL
  | .res_5_A => .resBit 5 (.reg .a)
  | .res_6_B => .resBit 6 (.reg .b)
  | .res_6_C => .resBit 6 (.reg .c)
  | .res_6_D => .resBit 6 (.reg .d)
  | .res_6_E => .resBit 6 (.reg .e)
  | .res_6_H => .resBit 6 (.reg .h)
  | .res_6_L => .resBit 6 (.reg .l)
  | .res_6_AtHL => .resBit 6 .atHL
  | .res_6_A => .resBit 6 (.reg .a)
  | .res_7_B => .resBit 7 (.reg .b)
  | .res_7_C => .resBit 7 (.reg .c)
  | .res_7_D => .resBit 7 (.reg .d)
  | .res_7_E => .resBit 7 (.reg .e)
  | .res_7_H => .resBit 7 (.reg .h)
  | .res_7_L => .resBit 7 (.reg .l)
  | .res_7_AtHL => .resBit 7 .atHL
  | .res_7_A => .resBit 7 (.reg .a)
  | .set_0_B => .setBit 0 (.reg .b)
  | .set_0_C => .setBit 0 (.reg .c)
  | .set_0_D => .setBit 0 (.reg .d)
  | .set_0_E => .setBit 0 (.reg .e)
  | .set_0_H => .setBit 0 (.reg .h)
  | .set_0_L => .setBit 0 (.reg .l)
  | .set_0_AtHL => .setBit 0 .atHL
  | .set_0_A => .setBit 0 (.reg .a)
  | .set_1_B => .setBit 1 (.reg .b)
  | .set_1_C => .setBit 1 (.reg .c)
  | .set_1_D => .setBit 1 (.reg .d)
  | .set_1_E => .setBit 1 (.reg .e)
  | .set_1_H => .setBit 1 (.reg .h)
  | .set_1_L => .setBit 1 (.reg .l)
  | .set_1_AtHL => .setBit 1 .atHL
  | .set_1_A => .setBit 1 (.reg .a)
  | .set_2_B => .setBit 2 (.reg .b)
  | .set_2_C => .setBit 2 (.reg .c)
  | .set_2_D => .setBit 2 (.reg .d)
  | .set_2_E => .setBit 2 (.reg .e)
  | .set_2_H => .setBit 2 (.reg .h)
  | .set_2_L => .setBit 2 (.reg .l)
  | .set_2_AtHL => .setBit 2 .atHL
  | .set_2_A => .setBit 2 (.reg .a)
  | .set_3_B => .setBit 3 (.reg .b)
  | .set_3_C => .setBit 3 (.reg .c)
  | .set_3_D => .setBit 3 (.reg .d)
  | .set_3_E => .setBit 3 (.reg .e)
  | .set_3_H => .setBit 3 (.reg .h)
  | .set_3_L => .setBit 3 (.reg .l)
  | .set_3_AtHL => .setBit 3 .atHL
  | .set_3_A => .setBit 3 (.reg .a)
  | .set_4_B => .setBit 4 (.reg .b)
  | .set_4_C => .setBit 4 (.reg .c)
  | .set_4_D => .setBit 4 (.reg .d)
  | .set_4_E => .setBit 4 (.reg .e)
  | .set_4_H => .setBit 4 (.reg .h)
  | .set_4_L => .setBit 4 (.reg .l)
  | .set_4_AtHL => .setBit 4 .atHL
  | .set_4_A => .setBit 4 (.reg .a)
  | .set_5_B => .setBit 5 (.reg .b)
  | .set_5_C => .setBit 5 (.reg .c)
  | .set_5_D => .setBit 5 (.reg .d)
  | .set_5_E => .setBit 5 (.reg .e)
  | .set_5_H => .setBit 5 (.reg .h)
  | .set_5_L => .setBit 5 (.reg .l)
  | .set_5_AtHL => .setBit 5 .atHL
  | .set_5_A => .setBit 5 (.reg .a)
  | .set_6_B => .setBit 6 (.reg .b)
  | .set_6_C => .setBit 6 (.reg .c)
  | .set_6_D => .setBit 6 (.reg .d)
  | .set_6_E => .setBit 6 (.reg .e)
  | .set_6_H => .setBit 6 (.reg .h)
  | .set_6_L => .setBit 6 (.reg .l)
  | .set_6_AtHL => .setBit 6 .atHL
  | .set_6_A => .setBit 6 (.reg .a)
  | .set_7_B => .setBit 7 (.reg .b)
  | .set_7_C => .setBit 7 (.reg .c)
  | .set_7_D => .setBit 7 (.reg .d)
  | .set_7_E => .setBit 7 (.reg .e)
  | .set_7_H => .setBit 7 (.reg .h)
  | .set_7_L => .setBit 7 (.reg .l)
  | .set_7_AtHL => .setBit 7 .atHL
  | .set_7_A => .setBit 7 (.reg .a)
  | .in_B_PortC => .inRegC .b
  | .out_PortC_B => .outCReg .b
  | .in_C_PortC => .inRegC .c
  | .out_PortC_C => .outCReg .c
  | .in_D_PortC => .inRegC .d
  | .out_PortC_D => .outCReg .d
  | .in_E_PortC => .inRegC .e
  | .out_PortC_E => .outCReg .e
  | .in_H_PortC => .inRegC .h
  | .out_PortC_H => .outCReg .h
  | .in_L_PortC => .inRegC .l
  | .out_PortC_L => .outCReg .l
  | .in_A_PortC => .inRegC .a
  | .out_PortC_A => .outCReg .a
  | .sbc_HL_BC => .sbcHL .bc
  | .adc_HL_BC => .adcHL .bc
  | .sbc_HL_DE => .sbcHL .de
  | .adc_HL_DE => .adcHL .de
  | .sbc_HL_HL => .sbcHL .hl
  | .adc_HL_HL => .adcHL .hl
  | .sbc_HL_SP => .sbcHL .sp
  | .adc_HL_SP => .adcHL .sp
  | .neg => .neg
  | .retn => .retn
  | .reti => .reti
  | .im_0 => .im .im0
  | .im_1 => .im .im1
  | .im_2 => .im .im2
  | .ld_I_A => .ldIA
  | .ld_R_A => .ldRA
  | .ld_A_I => .ldAI
  | .ld_A_R => .ldAR
  | .rrd => .rrd
  | .rld => .rld
  | .ldi => .ldBlock .inc
  | .ldir => .ldBlockRep .inc
  | .ldd => .ldBlock .dec
  | .lddr => .ldBlockRep .dec
  | .cpi => .cpBlock .inc
  | .cpir => .cpBlockRep .inc
  | .cpd => .cpBlock .dec
  | .cpdr => .cpBlockRep .dec
  | .ini => .inBlock .inc
  | .inir => .inBlockRep .inc
  | .ind => .inBlock .dec
  | .indr => .inBlockRep .dec
  | .outi => .outBlock .inc
  | .otir => .outBlockRep .inc
  | .outd => .outBlock .dec
  | .otdr => .outBlockRep .dec
  | .add_IX_BC => .addIdx .ix .bc
  | .add_IX_DE => .addIdx .ix .de
  | .add_IX_IX => .addIdx .ix .self
  | .add_IX_SP => .addIdx .ix .sp
  | .inc_IX => .incIdx .ix
  | .dec_IX => .decIdx .ix
  | .pop_IX => .popIdx .ix
  | .ex_AtSP_IX => .exSPIdx .ix
  | .push_IX => .pushIdx .ix
  | .jp_AtIX => .jpIdx .ix
  | .ld_SP_IX => .ldSPIdx .ix
  | .add_IY_BC => .addIdx .iy .bc
  | .add_IY_DE => .addIdx .iy .de
  | .add_IY_IY => .addIdx .iy .self
  | .add_IY_SP => .addIdx .iy .sp
  | .inc_IY => .incIdx .iy
  | .dec_IY => .decIdx .iy
  | .pop_IY => .popIdx .iy
  | .ex_AtSP_IY => .exSPIdx .iy
  | .push_IY => .pushIdx .iy
  | .jp_AtIY => .jpIdx .iy
  | .ld_SP_IY => .ldSPIdx .iy

end Sys2Proof
end

