-- ==== Sys2Proof/Machine/State.lean ====
section
/-! DEFINITION. The state of the block (10_state.md) as plain data: registers, control state, clock, cartridge,
mapper and memory, VDP, the counter of free values and the parameters; and the state after reset (R61, R600). -/

namespace Sys2Proof.Machine

/-- The fatal faults of R47 and R501: kind, PC, the opcode bytes read and the cycle count of the diagnostic. A step that
raises one records it in the state's `fault` field and answers that state (R502). The outcome `.fault` of the host's
interface is never answered: R502's terminal state is a state, which R500 returns unchanged. -/
inductive Fault where
  /-- The bytes at PC match no admitted row (R503). Raised by the step, at decode. Safe: the spec raises it. -/
  | unknownOpcode (pc : Word) (bytes : List Byte) (cycles : Nat)
  /-- An interrupt would be accepted with IM ≠ 1 (R511). Raised by the step, at the poll. Safe: the spec raises it. -/
  | unsupportedInterruptMode (pc : Word) (bytes : List Byte) (cycles : Nat)
  deriving DecidableEq, Repr

/-- Why the model gives no next state. -/
inductive Refusal where
  /-- An instruction without a meaning, by its mnemonic in spec/opcode_table.json. No arm of `exec` answers it. -/
  | notModelled (mnemonic : String)
  /-- The cartridge has no bank, or more than 64 (R606): the block is not constructed and takes no step. Raised by the
  step before anything else. Safe: the spec refuses it. -/
  | cartridgeRefused (numBanks : Nat)
  deriving DecidableEq, Repr

/-- The general registers (R30 to R33). -/
structure Regs where
  /-- The accumulator, high byte of AF (R30). -/
  a : Byte
  /-- The flag register, low byte of AF, a packed byte: S Z X2 H X1 PV N C from bit 7 to bit 0 (R36). -/
  f : Byte
  /-- High byte of BC (R30). -/
  b : Byte
  /-- Low byte of BC (R30). -/
  c : Byte
  /-- High byte of DE (R30). -/
  d : Byte
  /-- Low byte of DE (R30). -/
  e : Byte
  /-- High byte of HL (R30). -/
  h : Byte
  /-- Low byte of HL (R30). -/
  l : Byte
  /-- AF' (R31). -/
  afShadow : Word
  /-- BC' (R31). -/
  bcShadow : Word
  /-- DE' (R31). -/
  deShadow : Word
  /-- HL' (R31). -/
  hlShadow : Word
  /-- IX (R32). -/
  ix : Word
  /-- IY (R32). -/
  iy : Word
  /-- The stack pointer (R33). -/
  sp : Word
  deriving DecidableEq, Repr

/-- The cartridge ROM (R7, R50): configuration that the state carries and no step writes. -/
structure Cart where
  /-- The bytes of all banks: bank b offset k is at address 16384 b + k. -/
  rom : Mem
  /-- `NUM_BANKS`. -/
  numBanks : Nat
  deriving DecidableEq, Repr

/-- The mapper and the memories it writes (R48 to R52). -/
structure Mapper where
  /-- 8 KiB system RAM, addresses 0 to 0x1FFF (R48). -/
  sysRam : Mem
  /-- Cartridge-RAM page 0, 16 KiB (R49). -/
  cartRam0 : Mem
  /-- Cartridge-RAM page 1, 16 KiB (R49). -/
  cartRam1 : Mem
  /-- The control byte of 0xFFFC: bit 3 `ramEnable`, bit 2 `ramPage` (R51). -/
  ctl : Byte
  /-- The bank of slot 0, last byte written to 0xFFFD (R51). -/
  n0 : Byte
  /-- The bank of slot 1, last byte written to 0xFFFE (R51). -/
  n1 : Byte
  /-- The bank of slot 2, last byte written to 0xFFFF (R51). -/
  n2 : Byte
  deriving DecidableEq, Repr

/-- The VDP (R53 to R59). -/
structure Vdp where
  /-- 16 KiB video RAM (R53). -/
  vram : Mem
  /-- 32 bytes of colour RAM (R54). -/
  cram : Mem
  /-- The control registers vreg[0..15] (R55). -/
  vreg : Vector Byte 16
  /-- The first byte of a control write is held (R56). -/
  latchPending : Bool
  /-- That byte (R56). -/
  latchLow : Byte
  /-- 0 read setup, 1 write setup, 2 register write, 3 palette write (R56). -/
  code : BitVec 2
  /-- The current VRAM address (R56). -/
  addr : BitVec 14
  /-- What a data-port read returns (R57). -/
  readBuffer : Byte
  /-- The clock at the last V-sync (R58). -/
  lastVsync : Nat
  /-- The line-interrupt reload value, last byte written to register 10 (R58). -/
  lineReload : Byte
  /-- The line-interrupt latch (R58). -/
  lineCounter : Byte
  /-- The clock at the next line boundary (R58). -/
  lineTarget : Nat
  /-- The line interrupt is pending (R58). -/
  hintPending : Bool
  /-- The frame interrupt is pending (R58). -/
  vintPending : Bool
  /-- The frame interrupt of this frame has been asserted (R58, D27). -/
  vintDone : Bool
  /-- Horizontal scroll per visible line, 192 entries (R59, R527). -/
  hscrollLine : List Byte
  /-- Vertical scroll per visible line, 192 entries (R59, R527). -/
  vscrollLine : List Byte
  deriving DecidableEq, Repr

/-- The whole state. -/
structure State where
  /-- The general registers (R30 to R34). -/
  regs : Regs
  /-- The program counter (R35). -/
  pc : Word
  /-- The interrupt vector base I (R39). -/
  i : Byte
  /-- The refresh register R: bits 6:0 count opcode fetches, bit 7 is kept (R40, R41). -/
  r : Byte
  /-- Interrupt-enable latch 1 (R42). -/
  iff1 : Bool
  /-- Interrupt-enable latch 2 (R42). -/
  iff2 : Bool
  /-- The interrupt mode IM (R43). -/
  im : IntMode
  /-- HALT has executed and no interrupt has been accepted since (R44). -/
  halted : Bool
  /-- The last step executed EI (R45). -/
  eiShadow : Bool
  /-- The clock, in T-states (R46). -/
  cycles : Nat
  /-- The fatal fault raised, if any (R47). -/
  fault : Option Fault
  /-- The cartridge ROM (R50). -/
  cart : Cart
  /-- The mapper and its memories (R48, R49, R51). -/
  mem : Mapper
  /-- The VDP (R53 to R59). -/
  vdp : Vdp
  /-- How many free values have been drawn. The MODEL's own field, not the spec's: `draw()` (R14) number n is
  `Config.freeByte n`. -/
  draws : Nat
  /-- The parameters of 00_scope.md R8 and R9. -/
  params : Params
  deriving DecidableEq, Repr

/-- The general registers at reset. The spec leaves them unspecified (R34, D12); 0 is the model's choice
(DESIGN CHOICE, unsafe, notes/assumptions/3.md). -/
def Regs.reset : Regs where
  a := 0
  f := 0
  b := 0
  c := 0
  d := 0
  e := 0
  h := 0
  l := 0
  afShadow := 0
  bcShadow := 0
  deShadow := 0
  hlShadow := 0
  ix := 0
  iy := 0
  sp := 0

/-- The cartridge at reset: one bank, all zero padding. The cartridge is configuration (R50) that is loaded from outside;
this is the model's choice for a state with no program (DESIGN CHOICE, unsafe, notes/assumptions/2.md). -/
def Cart.reset : Cart where
  rom := []
  numBanks := 1

/-- The mapper at reset (R61, D14); cartridge RAM is zero (R49). -/
def Mapper.reset : Mapper where
  sysRam := []
  cartRam0 := []
  cartRam1 := []
  ctl := 0x00
  n0 := 0
  n1 := 1
  n2 := 2

/-- The VDP at reset (R61, D18). The read buffer is unspecified there (R57); 0 is the model's choice
(DESIGN CHOICE, unsafe, notes/assumptions/3.md). -/
def Vdp.reset (p : Params) : Vdp where
  vram := []
  cram := []
  vreg := Vector.replicate 16 0x00
  latchPending := false
  latchLow := 0x00
  code := 0
  addr := 0
  readBuffer := 0
  lastVsync := 0
  lineReload := 0
  lineCounter := 0
  lineTarget := p.hsyncTime
  hintPending := false
  vintPending := false
  vintDone := false
  hscrollLine := List.replicate 192 0
  vscrollLine := List.replicate 192 0

/-- The construction of the block with given parameters and cartridge: the state right after reset (R61, R600). -/
def State.resetWith (p : Params) (c : Cart) : State where
  regs := Regs.reset
  pc := 0x0000
  i := 0x00
  r := 0x00
  iff1 := false
  iff2 := false
  im := .im0
  halted := false
  eiShadow := false
  cycles := 0
  fault := none
  cart := c
  mem := Mapper.reset
  vdp := Vdp.reset p
  draws := 0
  params := p

/-- The state right after reset, with the default parameters of 00_scope.md R8 and R9 (R61, R600). -/
def State.reset : State := State.resetWith Params.standard Cart.reset

end Sys2Proof.Machine
end

