-- ==== Sys2Proof/Machine/Flags.lean ====
section
/-! DEFINITION. The flag register (10_state.md R36 to R38), the flag helpers of 42_alu8.md R260 to R264 and
43_alu16.md R300 to R302, the results of the eight ALU operations, the rotates and DAA, and the conditions of
30_encoding.md R166.

A flag computation gives the flags as a byte with X1 and X2 zero. `mergeF` then writes the flags an instruction fixes,
draws the flags it leaves unspecified, and keeps the rest. -/

namespace Sys2Proof.Machine

/-! ## The bits of F (R36) -/

/-- F.S, bit 7. -/
def flagS (f : Byte) : Bool := f.getLsbD 7

/-- F.Z, bit 6. -/
def flagZ (f : Byte) : Bool := f.getLsbD 6

/-- F.X2, bit 5. -/
def flagX2 (f : Byte) : Bool := f.getLsbD 5

/-- F.H, bit 4. -/
def flagH (f : Byte) : Bool := f.getLsbD 4

/-- F.X1, bit 3. -/
def flagX1 (f : Byte) : Bool := f.getLsbD 3

/-- F.PV, bit 2. -/
def flagPV (f : Byte) : Bool := f.getLsbD 2

/-- F.N, bit 1. -/
def flagN (f : Byte) : Bool := f.getLsbD 1

/-- F.C, bit 0. -/
def flagC (f : Byte) : Bool := f.getLsbD 0

/-- The byte with the six documented flags, X1 and X2 zero (R36). -/
def flagByte (s z h pv n c : Bool) : Byte :=
  bitIf s 0x80 ||| bitIf z 0x40 ||| bitIf h 0x10 ||| bitIf pv 0x04 ||| bitIf n 0x02 ||| bitIf c 0x01

/-- X2 and X1, which every flag-writing instruction draws (R38). -/
def maskX : Byte := 0x28

/-- S, Z, H, PV, N and C. -/
def maskAll : Byte := 0xD7

/-- S, Z, H, PV and N, for an instruction that keeps C. -/
def maskKeepC : Byte := 0xD6

/-- H, N and C, for an instruction that keeps S, Z and PV. -/
def maskHNC : Byte := 0x13

/-- H and N: CPL (R458). -/
def maskHN : Byte := 0x12

/-- H, PV and N: LDI and its relatives (R431). -/
def maskHPVN : Byte := 0x16

/-- Z, H and N: BIT (R350). -/
def maskZHN : Byte := 0x52

/-- S, PV, X1 and X2, which BIT draws (R350, D4). -/
def maskBitDrawn : Byte := 0xAC

/-- Z and N: the block input and output instructions (R404, R408). -/
def maskZN : Byte := 0x42

/-- S, H, PV, X1 and X2, which the block input and output instructions draw (R404, R408, D4). -/
def maskIoDrawn : Byte := 0xBC

/-- S, Z, H, PV and C, for DAA, which keeps N (R461). -/
def maskDaa : Byte := 0xD5

/-- F after a write: the bits of `known` under `exact`, the bits of the free value `drawn` under `free`, the old bits
elsewhere (R37, R38). -/
def mergeF (exact free : Byte) (old known drawn : Byte) : Byte :=
  (known &&& exact) ||| (drawn &&& free) ||| (old &&& ~~~(exact ||| free))

/-! ## 8-bit arithmetic and logic (42_alu8.md): a result and its flags -/

/-- `add8(a, b, c)` (R260). -/
def add8 (a b : Byte) (c : Bool) : Byte × Byte :=
  let r := a + b + carry 8 c
  (r, flagByte r.msb (r == 0) (decide (a.toNat % 16 + b.toNat % 16 + c.toNat > 0xF))
    ((a.msb == b.msb) && (r.msb != a.msb)) false (decide (a.toNat + b.toNat + c.toNat > 0xFF)))

/-- `sub8(a, b, c)` (R261). -/
def sub8 (a b : Byte) (c : Bool) : Byte × Byte :=
  let r := a - b - carry 8 c
  (r, flagByte r.msb (r == 0) (decide (a.toNat % 16 < b.toNat % 16 + c.toNat))
    ((a.msb != b.msb) && (r.msb != a.msb)) true (decide (a.toNat < b.toNat + c.toNat)))

/-- `logic(r, h)` (R262). -/
def logic8 (r : Byte) (h : Bool) : Byte × Byte :=
  (r, flagByte r.msb (r == 0) h (parity r) false false)

/-- `inc8(v)` (R263); C is kept by the caller's mask. -/
def inc8 (v : Byte) : Byte × Byte :=
  let r := v + 1
  (r, flagByte r.msb (r == 0) (v &&& 0xF == 0xF) (v == 0x7F) false false)

/-- `dec8(v)` (R264); C is kept by the caller's mask. -/
def dec8 (v : Byte) : Byte × Byte :=
  let r := v - 1
  (r, flagByte r.msb (r == 0) (v &&& 0xF == 0) (v == 0x80) true false)

/-- The new A and the flags of an ALU operation on A, the operand and F.C (R266 to R273). -/
def aluResult (o : AluOp) (a s : Byte) (c : Bool) : Byte × Byte :=
  match o with
  | .add => add8 a s false
  | .adc => add8 a s c
  | .sub => sub8 a s false
  | .sbc => sub8 a s c
  | .and => logic8 (a &&& s) true
  | .xor => logic8 (a ^^^ s) false
  | .or => logic8 (a ||| s) false
  | .cp => (a, (sub8 a s false).2)

/-- DAA on A, with F.N, F.H and F.C (R461); N is kept by the caller's mask. -/
def daaResult (a : Byte) (n h c : Bool) : Byte × Byte :=
  let low := a &&& 0x0F
  let fixLow := h || decide (low.toNat > 9)
  let fixHigh := c || decide (a.toNat > 0x99)
  let corr := bitIf fixLow 0x06 ||| bitIf fixHigh 0x60
  let r := if n then a - corr else a + corr
  let h' := if n then h && decide (low.toNat < 6) else decide (low.toNat > 9)
  (r, flagByte r.msb (r == 0) h' (parity r) false fixHigh)

/-! ## 16-bit arithmetic (43_alu16.md) -/

/-- `add16(a, b, c)` (R300). -/
def add16 (a b : Word) (c : Bool) : Word × Byte :=
  let r := a + b + carry 16 c
  (r, flagByte r.msb (r == 0) (decide (a.toNat % 0x1000 + b.toNat % 0x1000 + c.toNat > 0xFFF))
    ((a.msb == b.msb) && (r.msb != a.msb)) false (decide (a.toNat + b.toNat + c.toNat > 0xFFFF)))

/-- `sbc16(a, b, c)` (R302). -/
def sbc16 (a b : Word) (c : Bool) : Word × Byte :=
  let r := a - b - carry 16 c
  (r, flagByte r.msb (r == 0) (decide (a.toNat % 0x1000 < b.toNat % 0x1000 + c.toNat))
    ((a.msb != b.msb) && (r.msb != a.msb)) true (decide (a.toNat < b.toNat + c.toNat)))

/-! ## Rotates and shifts (44_rotate_shift.md): a result and the bit shifted out -/

/-- Rotate left circular (R320, R325). -/
def rlcBits (v : Byte) : Byte × Bool := ((v <<< 1) ||| bitIf v.msb 0x01, v.msb)

/-- Rotate right circular (R321, R326). -/
def rrcBits (v : Byte) : Byte × Bool := ((v >>> 1) ||| bitIf (v.getLsbD 0) 0x80, v.getLsbD 0)

/-- Rotate left through carry (R322, R327). -/
def rlBits (v : Byte) (c : Bool) : Byte × Bool := ((v <<< 1) ||| bitIf c 0x01, v.msb)

/-- Rotate right through carry (R323, R328). -/
def rrBits (v : Byte) (c : Bool) : Byte × Bool := ((v >>> 1) ||| bitIf c 0x80, v.getLsbD 0)

/-- The eight operations of the rot field (R325 to R332). -/
def rotBits (o : RotOp) (v : Byte) (c : Bool) : Byte × Bool :=
  match o with
  | .rlc => rlcBits v
  | .rrc => rrcBits v
  | .rl => rlBits v c
  | .rr => rrBits v c
  | .sla => (v <<< 1, v.msb)
  | .sra => ((v >>> 1) ||| (v &&& 0x80), v.getLsbD 0)
  | .sll => ((v <<< 1) ||| 0x01, v.msb)
  | .srl => (v >>> 1, v.getLsbD 0)

/-- The flags of a CB rotate or shift (R324). -/
def rotFlags (r : Byte) (c : Bool) : Byte := flagByte r.msb (r == 0) false (parity r) false c

/-- S, Z and PV from a byte and H = N = 0, C kept by the caller's mask: RLD, RRD and IN r,(C) (R333, R334, R401). -/
def byteFlags (v : Byte) : Byte := flagByte v.msb (v == 0) false (parity v) false false

/-! ## Conditions -/

/-- `cond(cc)` (R166). -/
def condHolds (k : Cond) (f : Byte) : Bool :=
  match k with
  | .nz => !flagZ f
  | .z => flagZ f
  | .nc => !flagC f
  | .c => flagC f
  | .po => !flagPV f
  | .pe => flagPV f
  | .p => !flagS f
  | .m => flagS f

/-- The condition of JR cc as a cc (R166). -/
def jrCondition : JrCond → Cond
  | .nz => .nz
  | .z => .z
  | .nc => .nc
  | .c => .c

end Sys2Proof.Machine
end

