-- ==== Sys2Proof/Machine/Vdp.lean ====
section
/-! DEFINITION. The VDP as a device (60_exceptions.md sections 3 to 5): its ports, registers, scroll snapshots, the
scan-line counter and interrupt generator, and its interrupt line. Each operation is a function of the VDP record; the
clock, the parameters and free values are arguments. -/

namespace Sys2Proof.Machine

/-! ## Registers and fields (R55) -/

/-- `vreg[i]`. -/
def Vdp.reg (v : Vdp) (i : BitVec 4) : Byte := v.vreg[i.toNat]'(i.isLt)

/-- `hintEnable`, vreg[0] bit 4 (R55). -/
def Vdp.hintEnable (v : Vdp) : Bool := (v.reg 0).getLsbD 4

/-- `vintEnable`, vreg[1] bit 5 (R55). -/
def Vdp.vintEnable (v : Vdp) : Bool := (v.reg 1).getLsbD 5

/-- `ScrollSnapshot` on one list: entries from `line` on take `b` (R527). From line 192 on nothing changes. -/
def scrollFrom (line : Nat) (b : Byte) (l : List Byte) : List Byte :=
  l.take line ++ List.replicate (l.length - line) b

/-- The line of a clock value: `(cycles - lastVsync) div HSYNCCYCLETIME` (R527). -/
def Vdp.lineAt (p : Params) (now : Nat) (v : Vdp) : Nat := (now - v.lastVsync) / p.hsyncTime

/-- `VdpRegisterWrite(i, b)` at clock `now` (R526): the register, then its side effect. Registers 0, 1, 2, 5, 6 and 7
take effect through the fields and views computed from `vreg`. -/
def Vdp.registerWrite (p : Params) (now : Nat) (i : BitVec 4) (b : Byte) (v : Vdp) : Vdp :=
  let w := { v with vreg := v.vreg.set i.toNat b i.isLt }
  if i = 8 then { w with hscrollLine := scrollFrom (v.lineAt p now) b v.hscrollLine }
  else if i = 9 then { w with vscrollLine := scrollFrom (v.lineAt p now) b v.vscrollLine }
  else if i = 10 then { w with lineReload := b }
  else w

/-! ## Ports (R520 to R525) -/

/-- A read of any VDP port clears the control latch (R520, D16). -/
def Vdp.clearLatch (v : Vdp) : Vdp := { v with latchPending := false }

/-- Fill the read buffer from `vram[addr]` and step the address, mod 0x4000 (R521, R523). -/
def Vdp.prefetch (v : Vdp) : Vdp :=
  { v with readBuffer := Mem.read v.vram v.addr.toNat, addr := v.addr + 1 }

/-- `VdpDataRead()` (R521). -/
def Vdp.dataRead (v : Vdp) : Byte × Vdp := (v.readBuffer, v.clearLatch.prefetch)

/-- `VdpStatusRead()` (R522): bit 7 is `vintPending`, bits 6:0 those of the free value. -/
def Vdp.statusRead (drawn : Byte) (v : Vdp) : Byte × Vdp :=
  (bitIf v.vintPending 0x80 ||| (drawn &&& 0x7F),
   { v with latchPending := false, vintPending := false, hintPending := false })

/-- `VdpControlWrite(b)` at clock `now` (R523). -/
def Vdp.controlWrite (p : Params) (now : Nat) (b : Byte) (v : Vdp) : Vdp :=
  if !v.latchPending then { v with latchLow := b, latchPending := true }
  else
    let w := { v with latchPending := false, code := b.extractLsb' 6 2 }
    if b.extractLsb' 4 4 = 0b1000#4 then w.registerWrite p now (b.extractLsb' 0 4) v.latchLow
    else
      let u := { w with addr := b.extractLsb' 0 6 ++ v.latchLow }
      if b.extractLsb' 6 2 = 0#2 then u.prefetch else u

/-- `VdpDataWrite(b)` (R524): the read buffer becomes the free value. -/
def Vdp.dataWrite (drawn b : Byte) (v : Vdp) : Vdp :=
  let w := if v.code = 3 then { v with cram := Mem.write v.cram (v.addr.toNat % 32) b }
    else { v with vram := Mem.write v.vram v.addr.toNat b }
  { w with latchPending := false, addr := v.addr + 1, readBuffer := drawn }

/-! ## The scan-line counter and the interrupt generator (R540 to R544) -/

/-- The frame wrap (R543). -/
def Vdp.wrap (p : Params) (t : Nat) (v : Vdp) : Vdp :=
  if v.lastVsync + p.vsyncTime ≤ t then
    { v with
      lastVsync := t
      lineCounter := v.lineReload
      lineTarget := t + p.hsyncTime
      vintDone := false
      hscrollLine := v.hscrollLine.map fun _ => v.reg 8
      vscrollLine := v.vscrollLine.map fun _ => v.reg 9 }
  else v

/-- One line boundary: the counter counts down, or at 0 is reloaded with the line interrupt pending (R541). -/
def Vdp.lineBoundary (p : Params) (v : Vdp) : Vdp :=
  if v.lineCounter = 0 then
    { v with lineTarget := v.lineTarget + p.hsyncTime, lineCounter := v.lineReload, hintPending := true }
  else { v with lineTarget := v.lineTarget + p.hsyncTime, lineCounter := v.lineCounter - 1 }

/-- Every line boundary up to clock `t` in the visible part of the frame, in order (R541). The fuel bounds the loop;
`Vdp.update` gives it one unit for each T-state the target can still pass, so that it ends by its own condition. -/
def Vdp.lines (p : Params) (t : Nat) : Nat → Vdp → Vdp
  | 0, v => v
  | fuel + 1, v =>
    if v.lineTarget ≤ t ∧ v.lineTarget < v.lastVsync + p.vframeTime then Vdp.lines p t fuel (v.lineBoundary p) else v

/-- The frame interrupt, asserted once per frame (R542). -/
def Vdp.vblank (p : Params) (t : Nat) (v : Vdp) : Vdp :=
  if v.lastVsync + p.vframeTime ≤ t ∧ v.vintDone = false then { v with vintPending := true, vintDone := true } else v

/-- `VdpUpdate(t)` (R540). -/
def Vdp.update (p : Params) (t : Nat) (v : Vdp) : Vdp :=
  let w := v.wrap p t
  (Vdp.lines p t (t + 1 - w.lineTarget) w).vblank p t

/-- `VdpIrq()` (R544). -/
def Vdp.irq (v : Vdp) : Bool := (v.vintEnable && v.vintPending) || (v.hintEnable && v.hintPending)

/-- `VdpAcknowledge()` (R513): each pending flag whose enable is set is cleared. -/
def Vdp.acknowledge (v : Vdp) : Vdp :=
  { v with vintPending := v.vintPending && !v.vintEnable, hintPending := v.hintPending && !v.hintEnable }

end Sys2Proof.Machine
end

