-- ==== Sys2Proof/Machine/Ops.lean ====
section
/-! DEFINITION. The named operations over registers, memory, the stack, ports, free values and the clock, and taking an
exception: the IM 1 acknowledge, the fatal faults, and the return from an interrupt; and a reset while running. -/

namespace Sys2Proof.Machine

/-- What an instruction or a step answers. -/
abbrev Result := Host.Outcome State Fault Refusal

/-! ## Registers (R30, R163, R164, R165) -/

/-- `reg8(r)` (R163). -/
def Regs.get (g : Regs) : R8 → Byte
  | .b => g.b | .c => g.c | .d => g.d | .e => g.e | .h => g.h | .l => g.l | .a => g.a

/-- `reg8(r) <- v` (R163). -/
def Regs.set (g : Regs) (r : R8) (v : Byte) : Regs :=
  match r with
  | .b => { g with b := v }
  | .c => { g with c := v }
  | .d => { g with d := v }
  | .e => { g with e := v }
  | .h => { g with h := v }
  | .l => { g with l := v }
  | .a => { g with a := v }

/-- AF (R30). -/
def Regs.af (g : Regs) : Word := join g.a g.f

/-- BC (R30). -/
def Regs.bc (g : Regs) : Word := join g.b g.c

/-- DE (R30). -/
def Regs.de (g : Regs) : Word := join g.d g.e

/-- HL (R30). -/
def Regs.hl (g : Regs) : Word := join g.h g.l

/-- `AF <- w` (R30). -/
def Regs.setAF (g : Regs) (w : Word) : Regs := { g with a := hi w, f := lo w }

/-- `BC <- w` (R30). -/
def Regs.setBC (g : Regs) (w : Word) : Regs := { g with b := hi w, c := lo w }

/-- `DE <- w` (R30). -/
def Regs.setDE (g : Regs) (w : Word) : Regs := { g with d := hi w, e := lo w }

/-- `HL <- w` (R30). -/
def Regs.setHL (g : Regs) (w : Word) : Regs := { g with h := hi w, l := lo w }

/-- `reg16(rp)` (R164). -/
def Regs.getPair (g : Regs) : Pair → Word
  | .bc => g.bc | .de => g.de | .hl => g.hl | .sp => g.sp

/-- `reg16(rp) <- w` (R164). -/
def Regs.setPair (g : Regs) (p : Pair) (w : Word) : Regs :=
  match p with
  | .bc => g.setBC w
  | .de => g.setDE w
  | .hl => g.setHL w
  | .sp => { g with sp := w }

/-- `reg16_2(rp2)` (R165, R241). -/
def Regs.getPair2 (g : Regs) : Pair2 → Word
  | .bc => g.bc | .de => g.de | .hl => g.hl | .af => g.af

/-- `reg16_2(rp2) <- w` (R165, R243). -/
def Regs.setPair2 (g : Regs) (p : Pair2) (w : Word) : Regs :=
  match p with
  | .bc => g.setBC w
  | .de => g.setDE w
  | .hl => g.setHL w
  | .af => g.setAF w

/-- IX or IY (R169). -/
def Regs.getIdx (g : Regs) : Idx → Word
  | .ix => g.ix | .iy => g.iy

/-- `IX <- w` or `IY <- w` (R169). -/
def Regs.setIdx (g : Regs) (x : Idx) (w : Word) : Regs :=
  match x with
  | .ix => { g with ix := w }
  | .iy => { g with iy := w }

/-- The operand of ADD IX,ss (R304). -/
def Regs.getIdxPair (g : Regs) (x : Idx) : IdxPair → Word
  | .bc => g.bc | .de => g.de | .self => g.getIdx x | .sp => g.sp

/-- `swap(BC, BC'); swap(DE, DE'); swap(HL, HL')` (R247). -/
def Regs.exx (g : Regs) : Regs :=
  { (((g.setBC g.bcShadow).setDE g.deShadow).setHL g.hlShadow) with
    bcShadow := g.bc, deShadow := g.de, hlShadow := g.hl }

/-- AF exchanged with AF' (R246). -/
def Regs.exAF (g : Regs) : Regs := { g.setAF g.afShadow with afShadow := g.af }

/-- DE exchanged with HL (R245). -/
def Regs.exDEHL (g : Regs) : Regs := (g.setDE g.hl).setHL g.de

/-- The state with changed general registers. -/
def State.mapRegs (s : State) (f : Regs → Regs) : State := { s with regs := f s.regs }

/-! ## Memory (20_memory.md) -/

/-- `ROMbyte(b, off)` (R102, R104): a bank that does not exist is all zeros. -/
def Cart.romByte (c : Cart) (bank off : Nat) : Byte :=
  if bank < c.numBanks then Mem.read c.rom (bank * 16384 + off) else 0

/-- `ctl[3]`, `ramEnable` (R51). -/
def Mapper.ramEnable (m : Mapper) : Bool := m.ctl.getLsbD 3

/-- `ctl[2]`, `ramPage` (R51). -/
def Mapper.ramPage (m : Mapper) : Bool := m.ctl.getLsbD 2

/-- `cartRAM[ctl[2]]` (R102). -/
def Mapper.cartPage (m : Mapper) : Mem := if m.ramPage then m.cartRam1 else m.cartRam0

/-- `MemRead(a, 1)` (R102). -/
def Mapper.read (c : Cart) (m : Mapper) (a : Word) : Byte :=
  let n := a.toNat
  if n < 0x0400 then c.romByte 0 n
  else if n < 0x4000 then c.romByte m.n0.toNat n
  else if n < 0x8000 then c.romByte m.n1.toNat (n - 0x4000)
  else if n < 0xC000 then
    if m.ramEnable then Mem.read m.cartPage (n - 0x8000) else c.romByte m.n2.toNat (n - 0x8000)
  else Mem.read m.sysRam (n % 0x2000)

/-- `SelectorWrite(a, v)` (R107), for any a: only 0xFFFC to 0xFFFF are selectors. -/
def Mapper.select (m : Mapper) (a : Word) (v : Byte) : Mapper :=
  if a = 0xFFFC#16 then { m with ctl := v }
  else if a = 0xFFFD#16 then { m with n0 := v }
  else if a = 0xFFFE#16 then { m with n1 := v }
  else if a = 0xFFFF#16 then { m with n2 := v }
  else m

/-- A write to the cartridge-RAM page in slot 2 (R106, R110). -/
def Mapper.writeCart (m : Mapper) (off : Nat) (v : Byte) : Mapper :=
  if m.ramPage then { m with cartRam1 := Mem.write m.cartRam1 off v }
  else { m with cartRam0 := Mem.write m.cartRam0 off v }

/-- `MemWrite(a, 1, v)` (R106). The diagnostics of ignored writes change no state and are dropped (R504, D37). -/
def Mapper.write (m : Mapper) (a : Word) (v : Byte) : Mapper :=
  let n := a.toNat
  if 0xC000 ≤ n then ({ m with sysRam := Mem.write m.sysRam (n % 0x2000) v }).select a v
  else if 0x8000 ≤ n then (if m.ramEnable then m.writeCart (n - 0x8000) v else m)
  else m

/-- `MemRead(a, 1)`. -/
def State.read (s : State) (a : Word) : Byte := s.mem.read s.cart a

/-- `MemRead(a, 2)` (R105): little-endian, wrapping at 64 KiB. -/
def State.read16 (s : State) (a : Word) : Word := join (s.read (a + 1)) (s.read a)

/-- `MemWrite(a, 1, v)`. -/
def State.write (s : State) (a : Word) (v : Byte) : State := { s with mem := s.mem.write a v }

/-- `MemWrite(a, 2, w)` (R108): the low byte first, wrapping at 64 KiB. -/
def State.write16 (s : State) (a w : Word) : State := (s.write a (lo w)).write (a + 1) (hi w)

/-! ## The stack (R230) -/

/-- `push16(w)`: the high byte at SP - 1 first, then the low byte at SP - 2. -/
def State.push16 (s : State) (w : Word) : State :=
  let sp := s.regs.sp
  ((s.write (sp - 1) (hi w)).write (sp - 2) (lo w)).mapRegs fun g => { g with sp := sp - 2 }

/-- The word `pop16()` returns. -/
def State.popValue (s : State) : Word := s.read16 s.regs.sp

/-- `pop16()`'s effect on SP. -/
def State.popped (s : State) : State := s.mapRegs fun g => { g with sp := g.sp + 2 }

/-! ## Free values, flags, the clock and fetch -/

/-- The free value of the next `draw()` (R14). -/
def State.drawn (s : State) : Byte := Config.freeByte s.draws

/-- The state after a `draw()`. -/
def State.drew (s : State) : State := { s with draws := s.draws + 1 }

/-- Write F (R37, R38): the flags `exact` from `known`, the flags `free` drawn, the others kept. -/
def State.writeF (s : State) (exact free known : Byte) : State :=
  (s.mapRegs fun g => { g with f := mergeF exact free g.f known s.drawn }).drew

/-- `R[6:0] <- (R[6:0] + k) mod 128`, R[7] kept (R41). -/
def countR (r : Byte) (k : Nat) : Byte := (r &&& 0x80) ||| ((r + BitVec.ofNat 8 k) &&& 0x7F)

/-- `Tick(n)` (R46). -/
def State.tick (s : State) (n : Nat) : State := { s with cycles := s.cycles + n }

/-- Fetch is done: `PC <- next`, and R counts the opcode fetches (R170, R506). -/
def State.fetched (s : State) (len m1 : Nat) : State :=
  { s with pc := s.pc + BitVec.ofNat 16 len, r := countR s.r m1 }

/-- An instruction of `len` bytes and `m1` opcode fetches whose execution is `body` and costs `cyc` T-states: fetch, then
execute, then the clock (R500, R507). -/
def runFixed (len m1 cyc : Nat) (body : State → State) (s : State) : Result :=
  .next ((body (s.fetched len m1)).tick cyc)

/-- The same where the outcome of the execution selects the T-states: `yes` if `body` answers true (a taken branch, a
repeat), else `no` (R370, R430). -/
def runEither (len m1 yes no : Nat) (body : State → State × Bool) (s : State) : Result :=
  let r := body (s.fetched len m1)
  .next (r.1.tick (if r.2 then yes else no))

/-! ## Ports (R120 to R123) -/

/-- The state with a changed VDP. -/
def State.mapVdp (s : State) (f : Vdp → Vdp) : State := { s with vdp := f s.vdp }

/-- `VdpVCounterRead()` (R525). -/
def State.vCounterRead (s : State) : Byte × State :=
  let t := s.mapVdp Vdp.clearLatch
  if s.params.vcounterIsFunction then (Config.vcounterFn (s.cycles - s.vdp.lastVsync), t) else (s.drawn, t.drew)

/-- `VdpHCounterRead()` (R525). -/
def State.hCounterRead (s : State) : Byte × State := (s.drawn, (s.mapVdp Vdp.clearLatch).drew)

/-- `PortRead(p)` (R120). -/
def State.portRead (s : State) (p : Byte) : Byte × State :=
  if p = 0xBE#8 then (s.vdp.dataRead.1, s.mapVdp fun v => v.dataRead.2)
  else if p = 0xBF#8 then ((s.vdp.statusRead s.drawn).1, (s.mapVdp fun v => (v.statusRead s.drawn).2).drew)
  else if p &&& 0xC1#8 = 0x40#8 then s.vCounterRead
  else if p &&& 0xC1#8 = 0x41#8 then s.hCounterRead
  else (Mem.read s.params.extPorts p.toNat, s)

/-- `PortWrite(p, v)` (R121). A write to any other port goes to the sound generator or to nothing, outside the block. -/
def State.portWrite (s : State) (p v : Byte) : State :=
  if p = 0xBE#8 then (s.mapVdp (Vdp.dataWrite s.drawn v)).drew
  else if p = 0xBF#8 then s.mapVdp (Vdp.controlWrite s.params s.cycles v)
  else s

/-! ## Exceptions -/

/-- `AcceptIM1()` (R512). -/
def State.acceptIM1 (s : State) : State :=
  let t := ({ s with halted := false }).push16 s.pc
  ({ t with
      pc := 0x0038
      iff1 := false
      iff2 := false
      r := countR t.r 1
      vdp := t.vdp.acknowledge }).tick s.params.im1AckCycles

/-- `raise Fatal(...)` (R502): the fault is recorded, everything else stays as it is. -/
def State.raise (s : State) (x : Fault) : State := { s with fault := some x }

/-- A reset while running (R601): the construction again, with the same cartridge and parameters, cartridge RAM zero. It
comes from outside; no step performs it (notes/assumptions/19.md). The count of free values goes on, so that a value
drawn after it is a new one. -/
def State.resetAgain (s : State) : State := { State.resetWith s.params s.cart with draws := s.draws }

/-- RETI and RETN: `PC <- pop16(); IFF1 <- IFF2` (R382, R383). -/
def State.returnFromInterrupt (s : State) : State := { s.popped with pc := s.popValue, iff1 := s.iff2 }

end Sys2Proof.Machine
end

