-- ==== Sys2Proof/Machine/Operands.lean ====
section
/-! DEFINITION. The operand forms of the instructions: registers, immediates, `(HL)` and the indexed forms (R163, R171,
R265, R324). -/

namespace Sys2Proof.Machine

/-- `ea = IX +_16 sext_8(d)`, or IY (R171). -/
def State.ea (s : State) (x : Idx) (d : Byte) : Word := s.regs.getIdx x + sext8 d

/-- The value of an ALU source operand (R265). -/
def State.readSrc (s : State) : Src8 → Byte
  | .reg r => s.regs.get r
  | .imm n => n
  | .atHL => s.read s.regs.hl
  | .atIdx x d => s.read (s.ea x d)

/-- The value of an operand m (R163, R324, R350). -/
def State.readLoc (s : State) : Loc8 → Byte
  | .reg r => s.regs.get r
  | .atHL => s.read s.regs.hl
  | .atIdx x d => s.read (s.ea x d)

/-- `m <- v` (R163, R324). -/
def State.writeLoc (s : State) (m : Loc8) (v : Byte) : State :=
  match m with
  | .reg r => s.mapRegs fun g => g.set r v
  | .atHL => s.write s.regs.hl v
  | .atIdx x d => s.write (s.ea x d) v

/-- A number for each shape of m: register, `(HL)`, indexed. Lengths and T-states are given by it. -/
def locPick (m : Loc8) (reg hl idx : Nat) : Nat :=
  match m with
  | .reg _ => reg
  | .atHL => hl
  | .atIdx _ _ => idx

/-- A number for each shape of an ALU source: register, immediate, `(HL)`, indexed. -/
def srcPick (m : Src8) (reg imm hl idx : Nat) : Nat :=
  match m with
  | .reg _ => reg
  | .imm _ => imm
  | .atHL => hl
  | .atIdx _ _ => idx

/-- One step of a block pointer: +1 or -1, mod 2^16. -/
def stepWord (g : Dir) (w : Word) : Word :=
  match g with
  | .inc => w + 1
  | .dec => w - 1

end Sys2Proof.Machine
end

