-- ==== Sys2Proof/Machine/Alu16.lean ====
section
/-! DEFINITION. 16-bit arithmetic (43_alu16.md R303 to R310).
First the operations, one per rule; then the meaning of each instruction, a call of its rule's operation. -/

namespace Sys2Proof.Machine

/-- R303 ADD HL,ss: H, N and C; S, Z and PV kept. -/
def addHL (p : Pair) (s : State) : Result :=
  runFixed 1 1 11
    (fun t =>
      let r := add16 t.regs.hl (t.regs.getPair p) false
      (t.mapRegs fun g => g.setHL r.1).writeF maskHNC maskX r.2) s

/-- R304 ADD IX,ss and ADD IY,ss. -/
def addIdx (x : Idx) (p : IdxPair) (s : State) : Result :=
  runFixed 2 2 15
    (fun t =>
      let r := add16 (t.regs.getIdx x) (t.regs.getIdxPair x p) false
      (t.mapRegs fun g => g.setIdx x r.1).writeF maskHNC maskX r.2) s

/-- R305 ADC HL,ss (R301: all flags). -/
def adcHL (p : Pair) (s : State) : Result :=
  runFixed 2 2 15
    (fun t =>
      let r := add16 t.regs.hl (t.regs.getPair p) (flagC t.regs.f)
      (t.mapRegs fun g => g.setHL r.1).writeF maskAll maskX r.2) s

/-- R306 SBC HL,ss (R302: all flags). -/
def sbcHL (p : Pair) (s : State) : Result :=
  runFixed 2 2 15
    (fun t =>
      let r := sbc16 t.regs.hl (t.regs.getPair p) (flagC t.regs.f)
      (t.mapRegs fun g => g.setHL r.1).writeF maskAll maskX r.2) s

/-- R307 INC ss. -/
def incPair (p : Pair) (s : State) : Result :=
  runFixed 1 1 6 (fun t => t.mapRegs fun g => g.setPair p (g.getPair p + 1)) s

/-- R308 INC IX and INC IY. -/
def incIdx (x : Idx) (s : State) : Result :=
  runFixed 2 2 10 (fun t => t.mapRegs fun g => g.setIdx x (g.getIdx x + 1)) s

/-- R309 DEC ss. -/
def decPair (p : Pair) (s : State) : Result :=
  runFixed 1 1 6 (fun t => t.mapRegs fun g => g.setPair p (g.getPair p - 1)) s

/-- R310 DEC IX and DEC IY. -/
def decIdx (x : Idx) (s : State) : Result :=
  runFixed 2 2 10 (fun t => t.mapRegs fun g => g.setIdx x (g.getIdx x - 1)) s

/-! ## The meanings -/

/-- R307: INC BC. -/
def execInc_BC (s : State) : Result := incPair .bc s
/-- R303: ADD HL,BC. -/
def execAdd_HL_BC (s : State) : Result := addHL .bc s
/-- R309: DEC BC. -/
def execDec_BC (s : State) : Result := decPair .bc s
/-- R307: INC DE. -/
def execInc_DE (s : State) : Result := incPair .de s
/-- R303: ADD HL,DE. -/
def execAdd_HL_DE (s : State) : Result := addHL .de s
/-- R309: DEC DE. -/
def execDec_DE (s : State) : Result := decPair .de s
/-- R307: INC HL. -/
def execInc_HL (s : State) : Result := incPair .hl s
/-- R303: ADD HL,HL. -/
def execAdd_HL_HL (s : State) : Result := addHL .hl s
/-- R309: DEC HL. -/
def execDec_HL (s : State) : Result := decPair .hl s
/-- R307: INC SP. -/
def execInc_SP (s : State) : Result := incPair .sp s
/-- R303: ADD HL,SP. -/
def execAdd_HL_SP (s : State) : Result := addHL .sp s
/-- R309: DEC SP. -/
def execDec_SP (s : State) : Result := decPair .sp s
/-- R306: SBC HL,BC. -/
def execSbc_HL_BC (s : State) : Result := sbcHL .bc s
/-- R305: ADC HL,BC. -/
def execAdc_HL_BC (s : State) : Result := adcHL .bc s
/-- R306: SBC HL,DE. -/
def execSbc_HL_DE (s : State) : Result := sbcHL .de s
/-- R305: ADC HL,DE. -/
def execAdc_HL_DE (s : State) : Result := adcHL .de s
/-- R306: SBC HL,HL. -/
def execSbc_HL_HL (s : State) : Result := sbcHL .hl s
/-- R305: ADC HL,HL. -/
def execAdc_HL_HL (s : State) : Result := adcHL .hl s
/-- R306: SBC HL,SP. -/
def execSbc_HL_SP (s : State) : Result := sbcHL .sp s
/-- R305: ADC HL,SP. -/
def execAdc_HL_SP (s : State) : Result := adcHL .sp s
/-- R304: ADD IX,BC. -/
def execAdd_IX_BC (s : State) : Result := addIdx .ix .bc s
/-- R304: ADD IX,DE. -/
def execAdd_IX_DE (s : State) : Result := addIdx .ix .de s
/-- R304: ADD IX,IX. -/
def execAdd_IX_IX (s : State) : Result := addIdx .ix .self s
/-- R304: ADD IX,SP. -/
def execAdd_IX_SP (s : State) : Result := addIdx .ix .sp s
/-- R308: INC IX. -/
def execInc_IX (s : State) : Result := incIdx .ix s
/-- R310: DEC IX. -/
def execDec_IX (s : State) : Result := decIdx .ix s
/-- R304: ADD IY,BC. -/
def execAdd_IY_BC (s : State) : Result := addIdx .iy .bc s
/-- R304: ADD IY,DE. -/
def execAdd_IY_DE (s : State) : Result := addIdx .iy .de s
/-- R304: ADD IY,IY. -/
def execAdd_IY_IY (s : State) : Result := addIdx .iy .self s
/-- R304: ADD IY,SP. -/
def execAdd_IY_SP (s : State) : Result := addIdx .iy .sp s
/-- R308: INC IY. -/
def execInc_IY (s : State) : Result := incIdx .iy s
/-- R310: DEC IY. -/
def execDec_IY (s : State) : Result := decIdx .iy s

end Sys2Proof.Machine
end

