-- ==== Sys2Proof/Machine/Alu8.lean ====
section
/-! DEFINITION. 8-bit arithmetic and logic (42_alu8.md R265 to R279).
First the operations, one per rule; then the meaning of each instruction, a call of its rule's operation. -/

namespace Sys2Proof.Machine

/-- R266 to R273, the ALU operations, with the operand forms, lengths and T-states of R265. -/
def alu (o : AluOp) (src : Src8) (s : State) : Result :=
  runFixed (srcPick src 1 2 1 3) (srcPick src 1 1 1 2) (srcPick src 4 7 7 19)
    (fun t =>
      let r := aluResult o t.regs.a (t.readSrc src) (flagC t.regs.f)
      (t.mapRegs fun g => g.set .a r.1).writeF maskAll maskX r.2) s

/-- R274 to R276 INC m. -/
def incLoc (m : Loc8) (s : State) : Result :=
  runFixed (locPick m 1 1 3) (locPick m 1 1 2) (locPick m 4 11 23)
    (fun t =>
      let r := inc8 (t.readLoc m)
      (t.writeLoc m r.1).writeF maskKeepC maskX r.2) s

/-- R277 to R279 DEC m. -/
def decLoc (m : Loc8) (s : State) : Result :=
  runFixed (locPick m 1 1 3) (locPick m 1 1 2) (locPick m 4 11 23)
    (fun t =>
      let r := dec8 (t.readLoc m)
      (t.writeLoc m r.1).writeF maskKeepC maskX r.2) s

/-! ## The meanings -/

/-- R266: ADD A,n. -/
def execAdd_A_n (n : Byte) (s : State) : Result := alu .add (.imm n) s
/-- R267: ADC A,n. -/
def execAdc_A_n (n : Byte) (s : State) : Result := alu .adc (.imm n) s
/-- R268: SUB n. -/
def execSub_n (n : Byte) (s : State) : Result := alu .sub (.imm n) s
/-- R269: SBC A,n. -/
def execSbc_A_n (n : Byte) (s : State) : Result := alu .sbc (.imm n) s
/-- R270: AND n. -/
def execAnd_n (n : Byte) (s : State) : Result := alu .and (.imm n) s
/-- R271: XOR n. -/
def execXor_n (n : Byte) (s : State) : Result := alu .xor (.imm n) s
/-- R272: OR n. -/
def execOr_n (n : Byte) (s : State) : Result := alu .or (.imm n) s
/-- R273: CP n. -/
def execCp_n (n : Byte) (s : State) : Result := alu .cp (.imm n) s
/-- R276: INC (IX+d). -/
def execInc_AtIXd (d : Byte) (s : State) : Result := incLoc (.atIdx .ix d) s
/-- R279: DEC (IX+d). -/
def execDec_AtIXd (d : Byte) (s : State) : Result := decLoc (.atIdx .ix d) s
/-- R266: ADD A,(IX+d). -/
def execAdd_A_AtIXd (d : Byte) (s : State) : Result := alu .add (.atIdx .ix d) s
/-- R267: ADC A,(IX+d). -/
def execAdc_A_AtIXd (d : Byte) (s : State) : Result := alu .adc (.atIdx .ix d) s
/-- R268: SUB (IX+d). -/
def execSub_AtIXd (d : Byte) (s : State) : Result := alu .sub (.atIdx .ix d) s
/-- R269: SBC A,(IX+d). -/
def execSbc_A_AtIXd (d : Byte) (s : State) : Result := alu .sbc (.atIdx .ix d) s
/-- R270: AND (IX+d). -/
def execAnd_AtIXd (d : Byte) (s : State) : Result := alu .and (.atIdx .ix d) s
/-- R271: XOR (IX+d). -/
def execXor_AtIXd (d : Byte) (s : State) : Result := alu .xor (.atIdx .ix d) s
/-- R272: OR (IX+d). -/
def execOr_AtIXd (d : Byte) (s : State) : Result := alu .or (.atIdx .ix d) s
/-- R273: CP (IX+d). -/
def execCp_AtIXd (d : Byte) (s : State) : Result := alu .cp (.atIdx .ix d) s
/-- R276: INC (IY+d). -/
def execInc_AtIYd (d : Byte) (s : State) : Result := incLoc (.atIdx .iy d) s
/-- R279: DEC (IY+d). -/
def execDec_AtIYd (d : Byte) (s : State) : Result := decLoc (.atIdx .iy d) s
/-- R266: ADD A,(IY+d). -/
def execAdd_A_AtIYd (d : Byte) (s : State) : Result := alu .add (.atIdx .iy d) s
/-- R267: ADC A,(IY+d). -/
def execAdc_A_AtIYd (d : Byte) (s : State) : Result := alu .adc (.atIdx .iy d) s
/-- R268: SUB (IY+d). -/
def execSub_AtIYd (d : Byte) (s : State) : Result := alu .sub (.atIdx .iy d) s
/-- R269: SBC A,(IY+d). -/
def execSbc_A_AtIYd (d : Byte) (s : State) : Result := alu .sbc (.atIdx .iy d) s
/-- R270: AND (IY+d). -/
def execAnd_AtIYd (d : Byte) (s : State) : Result := alu .and (.atIdx .iy d) s
/-- R271: XOR (IY+d). -/
def execXor_AtIYd (d : Byte) (s : State) : Result := alu .xor (.atIdx .iy d) s
/-- R272: OR (IY+d). -/
def execOr_AtIYd (d : Byte) (s : State) : Result := alu .or (.atIdx .iy d) s
/-- R273: CP (IY+d). -/
def execCp_AtIYd (d : Byte) (s : State) : Result := alu .cp (.atIdx .iy d) s
/-- R274: INC B. -/
def execInc_B (s : State) : Result := incLoc (.reg .b) s
/-- R277: DEC B. -/
def execDec_B (s : State) : Result := decLoc (.reg .b) s
/-- R274: INC C. -/
def execInc_C (s : State) : Result := incLoc (.reg .c) s
/-- R277: DEC C. -/
def execDec_C (s : State) : Result := decLoc (.reg .c) s
/-- R274: INC D. -/
def execInc_D (s : State) : Result := incLoc (.reg .d) s
/-- R277: DEC D. -/
def execDec_D (s : State) : Result := decLoc (.reg .d) s
/-- R274: INC E. -/
def execInc_E (s : State) : Result := incLoc (.reg .e) s
/-- R277: DEC E. -/
def execDec_E (s : State) : Result := decLoc (.reg .e) s
/-- R274: INC H. -/
def execInc_H (s : State) : Result := incLoc (.reg .h) s
/-- R277: DEC H. -/
def execDec_H (s : State) : Result := decLoc (.reg .h) s
/-- R274: INC L. -/
def execInc_L (s : State) : Result := incLoc (.reg .l) s
/-- R277: DEC L. -/
def execDec_L (s : State) : Result := decLoc (.reg .l) s
/-- R275: INC (HL). -/
def execInc_AtHL (s : State) : Result := incLoc .atHL s
/-- R278: DEC (HL). -/
def execDec_AtHL (s : State) : Result := decLoc .atHL s
/-- R274: INC A. -/
def execInc_A (s : State) : Result := incLoc (.reg .a) s
/-- R277: DEC A. -/
def execDec_A (s : State) : Result := decLoc (.reg .a) s
/-- R266: ADD A,B. -/
def execAdd_A_B (s : State) : Result := alu .add (.reg .b) s
/-- R266: ADD A,C. -/
def execAdd_A_C (s : State) : Result := alu .add (.reg .c) s
/-- R266: ADD A,D. -/
def execAdd_A_D (s : State) : Result := alu .add (.reg .d) s
/-- R266: ADD A,E. -/
def execAdd_A_E (s : State) : Result := alu .add (.reg .e) s
/-- R266: ADD A,H. -/
def execAdd_A_H (s : State) : Result := alu .add (.reg .h) s
/-- R266: ADD A,L. -/
def execAdd_A_L (s : State) : Result := alu .add (.reg .l) s
/-- R266: ADD A,(HL). -/
def execAdd_A_AtHL (s : State) : Result := alu .add .atHL s
/-- R266: ADD A,A. -/
def execAdd_A_A (s : State) : Result := alu .add (.reg .a) s
/-- R267: ADC A,B. -/
def execAdc_A_B (s : State) : Result := alu .adc (.reg .b) s
/-- R267: ADC A,C. -/
def execAdc_A_C (s : State) : Result := alu .adc (.reg .c) s
/-- R267: ADC A,D. -/
def execAdc_A_D (s : State) : Result := alu .adc (.reg .d) s
/-- R267: ADC A,E. -/
def execAdc_A_E (s : State) : Result := alu .adc (.reg .e) s
/-- R267: ADC A,H. -/
def execAdc_A_H (s : State) : Result := alu .adc (.reg .h) s
/-- R267: ADC A,L. -/
def execAdc_A_L (s : State) : Result := alu .adc (.reg .l) s
/-- R267: ADC A,(HL). -/
def execAdc_A_AtHL (s : State) : Result := alu .adc .atHL s
/-- R267: ADC A,A. -/
def execAdc_A_A (s : State) : Result := alu .adc (.reg .a) s
/-- R268: SUB B. -/
def execSub_B (s : State) : Result := alu .sub (.reg .b) s
/-- R268: SUB C. -/
def execSub_C (s : State) : Result := alu .sub (.reg .c) s
/-- R268: SUB D. -/
def execSub_D (s : State) : Result := alu .sub (.reg .d) s
/-- R268: SUB E. -/
def execSub_E (s : State) : Result := alu .sub (.reg .e) s
/-- R268: SUB H. -/
def execSub_H (s : State) : Result := alu .sub (.reg .h) s
/-- R268: SUB L. -/
def execSub_L (s : State) : Result := alu .sub (.reg .l) s
/-- R268: SUB (HL). -/
def execSub_AtHL (s : State) : Result := alu .sub .atHL s
/-- R268: SUB A. -/
def execSub_A (s : State) : Result := alu .sub (.reg .a) s
/-- R269: SBC A,B. -/
def execSbc_A_B (s : State) : Result := alu .sbc (.reg .b) s
/-- R269: SBC A,C. -/
def execSbc_A_C (s : State) : Result := alu .sbc (.reg .c) s
/-- R269: SBC A,D. -/
def execSbc_A_D (s : State) : Result := alu .sbc (.reg .d) s
/-- R269: SBC A,E. -/
def execSbc_A_E (s : State) : Result := alu .sbc (.reg .e) s
/-- R269: SBC A,H. -/
def execSbc_A_H (s : State) : Result := alu .sbc (.reg .h) s
/-- R269: SBC A,L. -/
def execSbc_A_L (s : State) : Result := alu .sbc (.reg .l) s
/-- R269: SBC A,(HL). -/
def execSbc_A_AtHL (s : State) : Result := alu .sbc .atHL s
/-- R269: SBC A,A. -/
def execSbc_A_A (s : State) : Result := alu .sbc (.reg .a) s
/-- R270: AND B. -/
def execAnd_B (s : State) : Result := alu .and (.reg .b) s
/-- R270: AND C. -/
def execAnd_C (s : State) : Result := alu .and (.reg .c) s
/-- R270: AND D. -/
def execAnd_D (s : State) : Result := alu .and (.reg .d) s
/-- R270: AND E. -/
def execAnd_E (s : State) : Result := alu .and (.reg .e) s
/-- R270: AND H. -/
def execAnd_H (s : State) : Result := alu .and (.reg .h) s
/-- R270: AND L. -/
def execAnd_L (s : State) : Result := alu .and (.reg .l) s
/-- R270: AND (HL). -/
def execAnd_AtHL (s : State) : Result := alu .and .atHL s
/-- R270: AND A. -/
def execAnd_A (s : State) : Result := alu .and (.reg .a) s
/-- R271: XOR B. -/
def execXor_B (s : State) : Result := alu .xor (.reg .b) s
/-- R271: XOR C. -/
def execXor_C (s : State) : Result := alu .xor (.reg .c) s
/-- R271: XOR D. -/
def execXor_D (s : State) : Result := alu .xor (.reg .d) s
/-- R271: XOR E. -/
def execXor_E (s : State) : Result := alu .xor (.reg .e) s
/-- R271: XOR H. -/
def execXor_H (s : State) : Result := alu .xor (.reg .h) s
/-- R271: XOR L. -/
def execXor_L (s : State) : Result := alu .xor (.reg .l) s
/-- R271: XOR (HL). -/
def execXor_AtHL (s : State) : Result := alu .xor .atHL s
/-- R271: XOR A. -/
def execXor_A (s : State) : Result := alu .xor (.reg .a) s
/-- R272: OR B. -/
def execOr_B (s : State) : Result := alu .or (.reg .b) s
/-- R272: OR C. -/
def execOr_C (s : State) : Result := alu .or (.reg .c) s
/-- R272: OR D. -/
def execOr_D (s : State) : Result := alu .or (.reg .d) s
/-- R272: OR E. -/
def execOr_E (s : State) : Result := alu .or (.reg .e) s
/-- R272: OR H. -/
def execOr_H (s : State) : Result := alu .or (.reg .h) s
/-- R272: OR L. -/
def execOr_L (s : State) : Result := alu .or (.reg .l) s
/-- R272: OR (HL). -/
def execOr_AtHL (s : State) : Result := alu .or .atHL s
/-- R272: OR A. -/
def execOr_A (s : State) : Result := alu .or (.reg .a) s
/-- R273: CP B. -/
def execCp_B (s : State) : Result := alu .cp (.reg .b) s
/-- R273: CP C. -/
def execCp_C (s : State) : Result := alu .cp (.reg .c) s
/-- R273: CP D. -/
def execCp_D (s : State) : Result := alu .cp (.reg .d) s
/-- R273: CP E. -/
def execCp_E (s : State) : Result := alu .cp (.reg .e) s
/-- R273: CP H. -/
def execCp_H (s : State) : Result := alu .cp (.reg .h) s
/-- R273: CP L. -/
def execCp_L (s : State) : Result := alu .cp (.reg .l) s
/-- R273: CP (HL). -/
def execCp_AtHL (s : State) : Result := alu .cp .atHL s
/-- R273: CP A. -/
def execCp_A (s : State) : Result := alu .cp (.reg .a) s

end Sys2Proof.Machine
end

