-- ==== Sys2Proof/Machine/BitOps.lean ====
section
/-! DEFINITION. Bit test, set and reset (45_bit.md R350 to R352).
First the operations, one per rule; then the meaning of each instruction, a call of its rule's operation. -/

namespace Sys2Proof.Machine

/-- The flags of BIT b on v: Z the complement of the bit, H = 1, N = 0; S and PV drawn, C kept (R350, D4). -/
def bitFlags (b : BitVec 3) (v : Byte) (t : State) : State :=
  t.writeF maskZHN maskBitDrawn (flagByte false (!v.getLsbD b.toNat) true false false false)

/-- R350 BIT b,r. -/
def bitTestReg (b : BitVec 3) (r : R8) (s : State) : Result :=
  runFixed 2 2 8 (fun t => bitFlags b (t.regs.get r) t) s

/-- R350 BIT b,(HL). -/
def bitTestHL (b : BitVec 3) (s : State) : Result :=
  runFixed 2 2 12 (fun t => bitFlags b (t.read t.regs.hl) t) s

/-- R350 BIT b,(IX+d) and BIT b,(IY+d), for every low field of the last byte (D39). -/
def bitTestIdx (b : BitVec 3) (x : Idx) (d : Byte) (s : State) : Result :=
  runFixed 4 2 20 (fun t => bitFlags b (t.read (t.ea x d)) t) s

/-- R351 RES b,m. -/
def resBit (b : BitVec 3) (m : Loc8) (s : State) : Result :=
  runFixed (locPick m 2 2 4) 2 (locPick m 8 15 23) (fun t => t.writeLoc m (t.readLoc m &&& ~~~(oneBit b))) s

/-- R352 SET b,m. -/
def setBit (b : BitVec 3) (m : Loc8) (s : State) : Result :=
  runFixed (locPick m 2 2 4) 2 (locPick m 8 15 23) (fun t => t.writeLoc m (t.readLoc m ||| oneBit b)) s

/-! ## The meanings -/

/-- R350: BIT 0,(IX+d). -/
def execBit_0_AtIXd (d : Byte) (s : State) : Result := bitTestIdx 0 .ix d s
/-- R350: BIT 1,(IX+d). -/
def execBit_1_AtIXd (d : Byte) (s : State) : Result := bitTestIdx 1 .ix d s
/-- R350: BIT 2,(IX+d). -/
def execBit_2_AtIXd (d : Byte) (s : State) : Result := bitTestIdx 2 .ix d s
/-- R350: BIT 3,(IX+d). -/
def execBit_3_AtIXd (d : Byte) (s : State) : Result := bitTestIdx 3 .ix d s
/-- R350: BIT 4,(IX+d). -/
def execBit_4_AtIXd (d : Byte) (s : State) : Result := bitTestIdx 4 .ix d s
/-- R350: BIT 5,(IX+d). -/
def execBit_5_AtIXd (d : Byte) (s : State) : Result := bitTestIdx 5 .ix d s
/-- R350: BIT 6,(IX+d). -/
def execBit_6_AtIXd (d : Byte) (s : State) : Result := bitTestIdx 6 .ix d s
/-- R350: BIT 7,(IX+d). -/
def execBit_7_AtIXd (d : Byte) (s : State) : Result := bitTestIdx 7 .ix d s
/-- R351: RES 0,(IX+d). -/
def execRes_0_AtIXd (d : Byte) (s : State) : Result := resBit 0 (.atIdx .ix d) s
/-- R351: RES 1,(IX+d). -/
def execRes_1_AtIXd (d : Byte) (s : State) : Result := resBit 1 (.atIdx .ix d) s
/-- R351: RES 2,(IX+d). -/
def execRes_2_AtIXd (d : Byte) (s : State) : Result := resBit 2 (.atIdx .ix d) s
/-- R351: RES 3,(IX+d). -/
def execRes_3_AtIXd (d : Byte) (s : State) : Result := resBit 3 (.atIdx .ix d) s
/-- R351: RES 4,(IX+d). -/
def execRes_4_AtIXd (d : Byte) (s : State) : Result := resBit 4 (.atIdx .ix d) s
/-- R351: RES 5,(IX+d). -/
def execRes_5_AtIXd (d : Byte) (s : State) : Result := resBit 5 (.atIdx .ix d) s
/-- R351: RES 6,(IX+d). -/
def execRes_6_AtIXd (d : Byte) (s : State) : Result := resBit 6 (.atIdx .ix d) s
/-- R351: RES 7,(IX+d). -/
def execRes_7_AtIXd (d : Byte) (s : State) : Result := resBit 7 (.atIdx .ix d) s
/-- R352: SET 0,(IX+d). -/
def execSet_0_AtIXd (d : Byte) (s : State) : Result := setBit 0 (.atIdx .ix d) s
/-- R352: SET 1,(IX+d). -/
def execSet_1_AtIXd (d : Byte) (s : State) : Result := setBit 1 (.atIdx .ix d) s
/-- R352: SET 2,(IX+d). -/
def execSet_2_AtIXd (d : Byte) (s : State) : Result := setBit 2 (.atIdx .ix d) s
/-- R352: SET 3,(IX+d). -/
def execSet_3_AtIXd (d : Byte) (s : State) : Result := setBit 3 (.atIdx .ix d) s
/-- R352: SET 4,(IX+d). -/
def execSet_4_AtIXd (d : Byte) (s : State) : Result := setBit 4 (.atIdx .ix d) s
/-- R352: SET 5,(IX+d). -/
def execSet_5_AtIXd (d : Byte) (s : State) : Result := setBit 5 (.atIdx .ix d) s
/-- R352: SET 6,(IX+d). -/
def execSet_6_AtIXd (d : Byte) (s : State) : Result := setBit 6 (.atIdx .ix d) s
/-- R352: SET 7,(IX+d). -/
def execSet_7_AtIXd (d : Byte) (s : State) : Result := setBit 7 (.atIdx .ix d) s
/-- R350: BIT 0,(IY+d). -/
def execBit_0_AtIYd (d : Byte) (s : State) : Result := bitTestIdx 0 .iy d s
/-- R350: BIT 1,(IY+d). -/
def execBit_1_AtIYd (d : Byte) (s : State) : Result := bitTestIdx 1 .iy d s
/-- R350: BIT 2,(IY+d). -/
def execBit_2_AtIYd (d : Byte) (s : State) : Result := bitTestIdx 2 .iy d s
/-- R350: BIT 3,(IY+d). -/
def execBit_3_AtIYd (d : Byte) (s : State) : Result := bitTestIdx 3 .iy d s
/-- R350: BIT 4,(IY+d). -/
def execBit_4_AtIYd (d : Byte) (s : State) : Result := bitTestIdx 4 .iy d s
/-- R350: BIT 5,(IY+d). -/
def execBit_5_AtIYd (d : Byte) (s : State) : Result := bitTestIdx 5 .iy d s
/-- R350: BIT 6,(IY+d). -/
def execBit_6_AtIYd (d : Byte) (s : State) : Result := bitTestIdx 6 .iy d s
/-- R350: BIT 7,(IY+d). -/
def execBit_7_AtIYd (d : Byte) (s : State) : Result := bitTestIdx 7 .iy d s
/-- R351: RES 0,(IY+d). -/
def execRes_0_AtIYd (d : Byte) (s : State) : Result := resBit 0 (.atIdx .iy d) s
/-- R351: RES 1,(IY+d). -/
def execRes_1_AtIYd (d : Byte) (s : State) : Result := resBit 1 (.atIdx .iy d) s
/-- R351: RES 2,(IY+d). -/
def execRes_2_AtIYd (d : Byte) (s : State) : Result := resBit 2 (.atIdx .iy d) s
/-- R351: RES 3,(IY+d). -/
def execRes_3_AtIYd (d : Byte) (s : State) : Result := resBit 3 (.atIdx .iy d) s
/-- R351: RES 4,(IY+d). -/
def execRes_4_AtIYd (d : Byte) (s : State) : Result := resBit 4 (.atIdx .iy d) s
/-- R351: RES 5,(IY+d). -/
def execRes_5_AtIYd (d : Byte) (s : State) : Result := resBit 5 (.atIdx .iy d) s
/-- R351: RES 6,(IY+d). -/
def execRes_6_AtIYd (d : Byte) (s : State) : Result := resBit 6 (.atIdx .iy d) s
/-- R351: RES 7,(IY+d). -/
def execRes_7_AtIYd (d : Byte) (s : State) : Result := resBit 7 (.atIdx .iy d) s
/-- R352: SET 0,(IY+d). -/
def execSet_0_AtIYd (d : Byte) (s : State) : Result := setBit 0 (.atIdx .iy d) s
/-- R352: SET 1,(IY+d). -/
def execSet_1_AtIYd (d : Byte) (s : State) : Result := setBit 1 (.atIdx .iy d) s
/-- R352: SET 2,(IY+d). -/
def execSet_2_AtIYd (d : Byte) (s : State) : Result := setBit 2 (.atIdx .iy d) s
/-- R352: SET 3,(IY+d). -/
def execSet_3_AtIYd (d : Byte) (s : State) : Result := setBit 3 (.atIdx .iy d) s
/-- R352: SET 4,(IY+d). -/
def execSet_4_AtIYd (d : Byte) (s : State) : Result := setBit 4 (.atIdx .iy d) s
/-- R352: SET 5,(IY+d). -/
def execSet_5_AtIYd (d : Byte) (s : State) : Result := setBit 5 (.atIdx .iy d) s
/-- R352: SET 6,(IY+d). -/
def execSet_6_AtIYd (d : Byte) (s : State) : Result := setBit 6 (.atIdx .iy d) s
/-- R352: SET 7,(IY+d). -/
def execSet_7_AtIYd (d : Byte) (s : State) : Result := setBit 7 (.atIdx .iy d) s
/-- R350: BIT 0,B. -/
def execBit_0_B (s : State) : Result := bitTestReg 0 .b s
/-- R350: BIT 0,C. -/
def execBit_0_C (s : State) : Result := bitTestReg 0 .c s
/-- R350: BIT 0,D. -/
def execBit_0_D (s : State) : Result := bitTestReg 0 .d s
/-- R350: BIT 0,E. -/
def execBit_0_E (s : State) : Result := bitTestReg 0 .e s
/-- R350: BIT 0,H. -/
def execBit_0_H (s : State) : Result := bitTestReg 0 .h s
/-- R350: BIT 0,L. -/
def execBit_0_L (s : State) : Result := bitTestReg 0 .l s
/-- R350: BIT 0,(HL). -/
def execBit_0_AtHL (s : State) : Result := bitTestHL 0 s
/-- R350: BIT 0,A. -/
def execBit_0_A (s : State) : Result := bitTestReg 0 .a s
/-- R350: BIT 1,B. -/
def execBit_1_B (s : State) : Result := bitTestReg 1 .b s
/-- R350: BIT 1,C. -/
def execBit_1_C (s : State) : Result := bitTestReg 1 .c s
/-- R350: BIT 1,D. -/
def execBit_1_D (s : State) : Result := bitTestReg 1 .d s
/-- R350: BIT 1,E. -/
def execBit_1_E (s : State) : Result := bitTestReg 1 .e s
/-- R350: BIT 1,H. -/
def execBit_1_H (s : State) : Result := bitTestReg 1 .h s
/-- R350: BIT 1,L. -/
def execBit_1_L (s : State) : Result := bitTestReg 1 .l s
/-- R350: BIT 1,(HL). -/
def execBit_1_AtHL (s : State) : Result := bitTestHL 1 s
/-- R350: BIT 1,A. -/
def execBit_1_A (s : State) : Result := bitTestReg 1 .a s
/-- R350: BIT 2,B. -/
def execBit_2_B (s : State) : Result := bitTestReg 2 .b s
/-- R350: BIT 2,C. -/
def execBit_2_C (s : State) : Result := bitTestReg 2 .c s
/-- R350: BIT 2,D. -/
def execBit_2_D (s : State) : Result := bitTestReg 2 .d s
/-- R350: BIT 2,E. -/
def execBit_2_E (s : State) : Result := bitTestReg 2 .e s
/-- R350: BIT 2,H. -/
def execBit_2_H (s : State) : Result := bitTestReg 2 .h s
/-- R350: BIT 2,L. -/
def execBit_2_L (s : State) : Result := bitTestReg 2 .l s
/-- R350: BIT 2,(HL). -/
def execBit_2_AtHL (s : State) : Result := bitTestHL 2 s
/-- R350: BIT 2,A. -/
def execBit_2_A (s : State) : Result := bitTestReg 2 .a s
/-- R350: BIT 3,B. -/
def execBit_3_B (s : State) : Result := bitTestReg 3 .b s
/-- R350: BIT 3,C. -/
def execBit_3_C (s : State) : Result := bitTestReg 3 .c s
/-- R350: BIT 3,D. -/
def execBit_3_D (s : State) : Result := bitTestReg 3 .d s
/-- R350: BIT 3,E. -/
def execBit_3_E (s : State) : Result := bitTestReg 3 .e s
/-- R350: BIT 3,H. -/
def execBit_3_H (s : State) : Result := bitTestReg 3 .h s
/-- R350: BIT 3,L. -/
def execBit_3_L (s : State) : Result := bitTestReg 3 .l s
/-- R350: BIT 3,(HL). -/
def execBit_3_AtHL (s : State) : Result := bitTestHL 3 s
/-- R350: BIT 3,A. -/
def execBit_3_A (s : State) : Result := bitTestReg 3 .a s
/-- R350: BIT 4,B. -/
def execBit_4_B (s : State) : Result := bitTestReg 4 .b s
/-- R350: BIT 4,C. -/
def execBit_4_C (s : State) : Result := bitTestReg 4 .c s
/-- R350: BIT 4,D. -/
def execBit_4_D (s : State) : Result := bitTestReg 4 .d s
/-- R350: BIT 4,E. -/
def execBit_4_E (s : State) : Result := bitTestReg 4 .e s
/-- R350: BIT 4,H. -/
def execBit_4_H (s : State) : Result := bitTestReg 4 .h s
/-- R350: BIT 4,L. -/
def execBit_4_L (s : State) : Result := bitTestReg 4 .l s
/-- R350: BIT 4,(HL). -/
def execBit_4_AtHL (s : State) : Result := bitTestHL 4 s
/-- R350: BIT 4,A. -/
def execBit_4_A (s : State) : Result := bitTestReg 4 .a s
/-- R350: BIT 5,B. -/
def execBit_5_B (s : State) : Result := bitTestReg 5 .b s
/-- R350: BIT 5,C. -/
def execBit_5_C (s : State) : Result := bitTestReg 5 .c s
/-- R350: BIT 5,D. -/
def execBit_5_D (s : State) : Result := bitTestReg 5 .d s
/-- R350: BIT 5,E. -/
def execBit_5_E (s : State) : Result := bitTestReg 5 .e s
/-- R350: BIT 5,H. -/
def execBit_5_H (s : State) : Result := bitTestReg 5 .h s
/-- R350: BIT 5,L. -/
def execBit_5_L (s : State) : Result := bitTestReg 5 .l s
/-- R350: BIT 5,(HL). -/
def execBit_5_AtHL (s : State) : Result := bitTestHL 5 s
/-- R350: BIT 5,A. -/
def execBit_5_A (s : State) : Result := bitTestReg 5 .a s
/-- R350: BIT 6,B. -/
def execBit_6_B (s : State) : Result := bitTestReg 6 .b s
/-- R350: BIT 6,C. -/
def execBit_6_C (s : State) : Result := bitTestReg 6 .c s
/-- R350: BIT 6,D. -/
def execBit_6_D (s : State) : Result := bitTestReg 6 .d s
/-- R350: BIT 6,E. -/
def execBit_6_E (s : State) : Result := bitTestReg 6 .e s
/-- R350: BIT 6,H. -/
def execBit_6_H (s : State) : Result := bitTestReg 6 .h s
/-- R350: BIT 6,L. -/
def execBit_6_L (s : State) : Result := bitTestReg 6 .l s
/-- R350: BIT 6,(HL). -/
def execBit_6_AtHL (s : State) : Result := bitTestHL 6 s
/-- R350: BIT 6,A. -/
def execBit_6_A (s : State) : Result := bitTestReg 6 .a s
/-- R350: BIT 7,B. -/
def execBit_7_B (s : State) : Result := bitTestReg 7 .b s
/-- R350: BIT 7,C. -/
def execBit_7_C (s : State) : Result := bitTestReg 7 .c s
/-- R350: BIT 7,D. -/
def execBit_7_D (s : State) : Result := bitTestReg 7 .d s
/-- R350: BIT 7,E. -/
def execBit_7_E (s : State) : Result := bitTestReg 7 .e s
/-- R350: BIT 7,H. -/
def execBit_7_H (s : State) : Result := bitTestReg 7 .h s
/-- R350: BIT 7,L. -/
def execBit_7_L (s : State) : Result := bitTestReg 7 .l s
/-- R350: BIT 7,(HL). -/
def execBit_7_AtHL (s : State) : Result := bitTestHL 7 s
/-- R350: BIT 7,A. -/
def execBit_7_A (s : State) : Result := bitTestReg 7 .a s
/-- R351: RES 0,B. -/
def execRes_0_B (s : State) : Result := resBit 0 (.reg .b) s
/-- R351: RES 0,C. -/
def execRes_0_C (s : State) : Result := resBit 0 (.reg .c) s
/-- R351: RES 0,D. -/
def execRes_0_D (s : State) : Result := resBit 0 (.reg .d) s
/-- R351: RES 0,E. -/
def execRes_0_E (s : State) : Result := resBit 0 (.reg .e) s
/-- R351: RES 0,H. -/
def execRes_0_H (s : State) : Result := resBit 0 (.reg .h) s
/-- R351: RES 0,L. -/
def execRes_0_L (s : State) : Result := resBit 0 (.reg .l) s
/-- R351: RES 0,(HL). -/
def execRes_0_AtHL (s : State) : Result := resBit 0 .atHL s
/-- R351: RES 0,A. -/
def execRes_0_A (s : State) : Result := resBit 0 (.reg .a) s
/-- R351: RES 1,B. -/
def execRes_1_B (s : State) : Result := resBit 1 (.reg .b) s
/-- R351: RES 1,C. -/
def execRes_1_C (s : State) : Result := resBit 1 (.reg .c) s
/-- R351: RES 1,D. -/
def execRes_1_D (s : State) : Result := resBit 1 (.reg .d) s
/-- R351: RES 1,E. -/
def execRes_1_E (s : State) : Result := resBit 1 (.reg .e) s
/-- R351: RES 1,H. -/
def execRes_1_H (s : State) : Result := resBit 1 (.reg .h) s
/-- R351: RES 1,L. -/
def execRes_1_L (s : State) : Result := resBit 1 (.reg .l) s
/-- R351: RES 1,(HL). -/
def execRes_1_AtHL (s : State) : Result := resBit 1 .atHL s
/-- R351: RES 1,A. -/
def execRes_1_A (s : State) : Result := resBit 1 (.reg .a) s
/-- R351: RES 2,B. -/
def execRes_2_B (s : State) : Result := resBit 2 (.reg .b) s
/-- R351: RES 2,C. -/
def execRes_2_C (s : State) : Result := resBit 2 (.reg .c) s
/-- R351: RES 2,D. -/
def execRes_2_D (s : State) : Result := resBit 2 (.reg .d) s
/-- R351: RES 2,E. -/
def execRes_2_E (s : State) : Result := resBit 2 (.reg .e) s
/-- R351: RES 2,H. -/
def execRes_2_H (s : State) : Result := resBit 2 (.reg .h) s
/-- R351: RES 2,L. -/
def execRes_2_L (s : State) : Result := resBit 2 (.reg .l) s
/-- R351: RES 2,(HL). -/
def execRes_2_AtHL (s : State) : Result := resBit 2 .atHL s
/-- R351: RES 2,A. -/
def execRes_2_A (s : State) : Result := resBit 2 (.reg .a) s
/-- R351: RES 3,B. -/
def execRes_3_B (s : State) : Result := resBit 3 (.reg .b) s
/-- R351: RES 3,C. -/
def execRes_3_C (s : State) : Result := resBit 3 (.reg .c) s
/-- R351: RES 3,D. -/
def execRes_3_D (s : State) : Result := resBit 3 (.reg .d) s
/-- R351: RES 3,E. -/
def execRes_3_E (s : State) : Result := resBit 3 (.reg .e) s
/-- R351: RES 3,H. -/
def execRes_3_H (s : State) : Result := resBit 3 (.reg .h) s
/-- R351: RES 3,L. -/
def execRes_3_L (s : State) : Result := resBit 3 (.reg .l) s
/-- R351: RES 3,(HL). -/
def execRes_3_AtHL (s : State) : Result := resBit 3 .atHL s
/-- R351: RES 3,A. -/
def execRes_3_A (s : State) : Result := resBit 3 (.reg .a) s
/-- R351: RES 4,B. -/
def execRes_4_B (s : State) : Result := resBit 4 (.reg .b) s
/-- R351: RES 4,C. -/
def execRes_4_C (s : State) : Result := resBit 4 (.reg .c) s
/-- R351: RES 4,D. -/
def execRes_4_D (s : State) : Result := resBit 4 (.reg .d) s
/-- R351: RES 4,E. -/
def execRes_4_E (s : State) : Result := resBit 4 (.reg .e) s
/-- R351: RES 4,H. -/
def execRes_4_H (s : State) : Result := resBit 4 (.reg .h) s
/-- R351: RES 4,L. -/
def execRes_4_L (s : State) : Result := resBit 4 (.reg .l) s
/-- R351: RES 4,(HL). -/
def execRes_4_AtHL (s : State) : Result := resBit 4 .atHL s
/-- R351: RES 4,A. -/
def execRes_4_A (s : State) : Result := resBit 4 (.reg .a) s
/-- R351: RES 5,B. -/
def execRes_5_B (s : State) : Result := resBit 5 (.reg .b) s
/-- R351: RES 5,C. -/
def execRes_5_C (s : State) : Result := resBit 5 (.reg .c) s
/-- R351: RES 5,D. -/
def execRes_5_D (s : State) : Result := resBit 5 (.reg .d) s
/-- R351: RES 5,E. -/
def execRes_5_E (s : State) : Result := resBit 5 (.reg .e) s
/-- R351: RES 5,H. -/
def execRes_5_H (s : State) : Result := resBit 5 (.reg .h) s
/-- R351: RES 5,L. -/
def execRes_5_L (s : State) : Result := resBit 5 (.reg .l) s
/-- R351: RES 5,(HL). -/
def execRes_5_AtHL (s : State) : Result := resBit 5 .atHL s
/-- R351: RES 5,A. -/
def execRes_5_A (s : State) : Result := resBit 5 (.reg .a) s
/-- R351: RES 6,B. -/
def execRes_6_B (s : State) : Result := resBit 6 (.reg .b) s
/-- R351: RES 6,C. -/
def execRes_6_C (s : State) : Result := resBit 6 (.reg .c) s
/-- R351: RES 6,D. -/
def execRes_6_D (s : State) : Result := resBit 6 (.reg .d) s
/-- R351: RES 6,E. -/
def execRes_6_E (s : State) : Result := resBit 6 (.reg .e) s
/-- R351: RES 6,H. -/
def execRes_6_H (s : State) : Result := resBit 6 (.reg .h) s
/-- R351: RES 6,L. -/
def execRes_6_L (s : State) : Result := resBit 6 (.reg .l) s
/-- R351: RES 6,(HL). -/
def execRes_6_AtHL (s : State) : Result := resBit 6 .atHL s
/-- R351: RES 6,A. -/
def execRes_6_A (s : State) : Result := resBit 6 (.reg .a) s
/-- R351: RES 7,B. -/
def execRes_7_B (s : State) : Result := resBit 7 (.reg .b) s
/-- R351: RES 7,C. -/
def execRes_7_C (s : State) : Result := resBit 7 (.reg .c) s
/-- R351: RES 7,D. -/
def execRes_7_D (s : State) : Result := resBit 7 (.reg .d) s
/-- R351: RES 7,E. -/
def execRes_7_E (s : State) : Result := resBit 7 (.reg .e) s
/-- R351: RES 7,H. -/
def execRes_7_H (s : State) : Result := resBit 7 (.reg .h) s
/-- R351: RES 7,L. -/
def execRes_7_L (s : State) : Result := resBit 7 (.reg .l) s
/-- R351: RES 7,(HL). -/
def execRes_7_AtHL (s : State) : Result := resBit 7 .atHL s
/-- R351: RES 7,A. -/
def execRes_7_A (s : State) : Result := resBit 7 (.reg .a) s
/-- R352: SET 0,B. -/
def execSet_0_B (s : State) : Result := setBit 0 (.reg .b) s
/-- R352: SET 0,C. -/
def execSet_0_C (s : State) : Result := setBit 0 (.reg .c) s
/-- R352: SET 0,D. -/
def execSet_0_D (s : State) : Result := setBit 0 (.reg .d) s
/-- R352: SET 0,E. -/
def execSet_0_E (s : State) : Result := setBit 0 (.reg .e) s
/-- R352: SET 0,H. -/
def execSet_0_H (s : State) : Result := setBit 0 (.reg .h) s
/-- R352: SET 0,L. -/
def execSet_0_L (s : State) : Result := setBit 0 (.reg .l) s
/-- R352: SET 0,(HL). -/
def execSet_0_AtHL (s : State) : Result := setBit 0 .atHL s
/-- R352: SET 0,A. -/
def execSet_0_A (s : State) : Result := setBit 0 (.reg .a) s
/-- R352: SET 1,B. -/
def execSet_1_B (s : State) : Result := setBit 1 (.reg .b) s
/-- R352: SET 1,C. -/
def execSet_1_C (s : State) : Result := setBit 1 (.reg .c) s
/-- R352: SET 1,D. -/
def execSet_1_D (s : State) : Result := setBit 1 (.reg .d) s
/-- R352: SET 1,E. -/
def execSet_1_E (s : State) : Result := setBit 1 (.reg .e) s
/-- R352: SET 1,H. -/
def execSet_1_H (s : State) : Result := setBit 1 (.reg .h) s
/-- R352: SET 1,L. -/
def execSet_1_L (s : State) : Result := setBit 1 (.reg .l) s
/-- R352: SET 1,(HL). -/
def execSet_1_AtHL (s : State) : Result := setBit 1 .atHL s
/-- R352: SET 1,A. -/
def execSet_1_A (s : State) : Result := setBit 1 (.reg .a) s
/-- R352: SET 2,B. -/
def execSet_2_B (s : State) : Result := setBit 2 (.reg .b) s
/-- R352: SET 2,C. -/
def execSet_2_C (s : State) : Result := setBit 2 (.reg .c) s
/-- R352: SET 2,D. -/
def execSet_2_D (s : State) : Result := setBit 2 (.reg .d) s
/-- R352: SET 2,E. -/
def execSet_2_E (s : State) : Result := setBit 2 (.reg .e) s
/-- R352: SET 2,H. -/
def execSet_2_H (s : State) : Result := setBit 2 (.reg .h) s
/-- R352: SET 2,L. -/
def execSet_2_L (s : State) : Result := setBit 2 (.reg .l) s
/-- R352: SET 2,(HL). -/
def execSet_2_AtHL (s : State) : Result := setBit 2 .atHL s
/-- R352: SET 2,A. -/
def execSet_2_A (s : State) : Result := setBit 2 (.reg .a) s
/-- R352: SET 3,B. -/
def execSet_3_B (s : State) : Result := setBit 3 (.reg .b) s
/-- R352: SET 3,C. -/
def execSet_3_C (s : State) : Result := setBit 3 (.reg .c) s
/-- R352: SET 3,D. -/
def execSet_3_D (s : State) : Result := setBit 3 (.reg .d) s
/-- R352: SET 3,E. -/
def execSet_3_E (s : State) : Result := setBit 3 (.reg .e) s
/-- R352: SET 3,H. -/
def execSet_3_H (s : State) : Result := setBit 3 (.reg .h) s
/-- R352: SET 3,L. -/
def execSet_3_L (s : State) : Result := setBit 3 (.reg .l) s
/-- R352: SET 3,(HL). -/
def execSet_3_AtHL (s : State) : Result := setBit 3 .atHL s
/-- R352: SET 3,A. -/
def execSet_3_A (s : State) : Result := setBit 3 (.reg .a) s
/-- R352: SET 4,B. -/
def execSet_4_B (s : State) : Result := setBit 4 (.reg .b) s
/-- R352: SET 4,C. -/
def execSet_4_C (s : State) : Result := setBit 4 (.reg .c) s
/-- R352: SET 4,D. -/
def execSet_4_D (s : State) : Result := setBit 4 (.reg .d) s
/-- R352: SET 4,E. -/
def execSet_4_E (s : State) : Result := setBit 4 (.reg .e) s
/-- R352: SET 4,H. -/
def execSet_4_H (s : State) : Result := setBit 4 (.reg .h) s
/-- R352: SET 4,L. -/
def execSet_4_L (s : State) : Result := setBit 4 (.reg .l) s
/-- R352: SET 4,(HL). -/
def execSet_4_AtHL (s : State) : Result := setBit 4 .atHL s
/-- R352: SET 4,A. -/
def execSet_4_A (s : State) : Result := setBit 4 (.reg .a) s
/-- R352: SET 5,B. -/
def execSet_5_B (s : State) : Result := setBit 5 (.reg .b) s
/-- R352: SET 5,C. -/
def execSet_5_C (s : State) : Result := setBit 5 (.reg .c) s
/-- R352: SET 5,D. -/
def execSet_5_D (s : State) : Result := setBit 5 (.reg .d) s
/-- R352: SET 5,E. -/
def execSet_5_E (s : State) : Result := setBit 5 (.reg .e) s
/-- R352: SET 5,H. -/
def execSet_5_H (s : State) : Result := setBit 5 (.reg .h) s
/-- R352: SET 5,L. -/
def execSet_5_L (s : State) : Result := setBit 5 (.reg .l) s
/-- R352: SET 5,(HL). -/
def execSet_5_AtHL (s : State) : Result := setBit 5 .atHL s
/-- R352: SET 5,A. -/
def execSet_5_A (s : State) : Result := setBit 5 (.reg .a) s
/-- R352: SET 6,B. -/
def execSet_6_B (s : State) : Result := setBit 6 (.reg .b) s
/-- R352: SET 6,C. -/
def execSet_6_C (s : State) : Result := setBit 6 (.reg .c) s
/-- R352: SET 6,D. -/
def execSet_6_D (s : State) : Result := setBit 6 (.reg .d) s
/-- R352: SET 6,E. -/
def execSet_6_E (s : State) : Result := setBit 6 (.reg .e) s
/-- R352: SET 6,H. -/
def execSet_6_H (s : State) : Result := setBit 6 (.reg .h) s
/-- R352: SET 6,L. -/
def execSet_6_L (s : State) : Result := setBit 6 (.reg .l) s
/-- R352: SET 6,(HL). -/
def execSet_6_AtHL (s : State) : Result := setBit 6 .atHL s
/-- R352: SET 6,A. -/
def execSet_6_A (s : State) : Result := setBit 6 (.reg .a) s
/-- R352: SET 7,B. -/
def execSet_7_B (s : State) : Result := setBit 7 (.reg .b) s
/-- R352: SET 7,C. -/
def execSet_7_C (s : State) : Result := setBit 7 (.reg .c) s
/-- R352: SET 7,D. -/
def execSet_7_D (s : State) : Result := setBit 7 (.reg .d) s
/-- R352: SET 7,E. -/
def execSet_7_E (s : State) : Result := setBit 7 (.reg .e) s
/-- R352: SET 7,H. -/
def execSet_7_H (s : State) : Result := setBit 7 (.reg .h) s
/-- R352: SET 7,L. -/
def execSet_7_L (s : State) : Result := setBit 7 (.reg .l) s
/-- R352: SET 7,(HL). -/
def execSet_7_AtHL (s : State) : Result := setBit 7 .atHL s
/-- R352: SET 7,A. -/
def execSet_7_A (s : State) : Result := setBit 7 (.reg .a) s

end Sys2Proof.Machine
end

