-- ==== Sys2Proof/Machine/Block.lean ====
section
/-! DEFINITION. Block transfer and compare (48_block.md R430 to R438).
First the operations, one per rule; then the meaning of each instruction, a call of its rule's operation. -/

namespace Sys2Proof.Machine

/-- One iteration of LDI or LDD: the byte, the pointers, BC, and H = N = 0, PV = (BC ≠ 0) (R431, R433). -/
def ldIteration (g : Dir) (t : State) : State :=
  let u := (t.write t.regs.de (t.read t.regs.hl)).mapRegs fun q =>
    ((q.setHL (stepWord g q.hl)).setDE (stepWord g q.de)).setBC (q.bc - 1)
  u.writeF maskHPVN maskX (flagByte false false false (u.regs.bc != 0) false false)

/-- One iteration of CPI or CPD, and the difference r (R435, R437); C is kept. -/
def cpIteration (g : Dir) (t : State) : State × Byte :=
  let v := t.read t.regs.hl
  let r := t.regs.a - v
  let u := t.mapRegs fun q => (q.setHL (stepWord g q.hl)).setBC (q.bc - 1)
  (u.writeF maskKeepC maskX
    (flagByte r.msb (r == 0) (decide (t.regs.a.toNat % 16 < v.toNat % 16)) (u.regs.bc != 0) true false), r)

/-- R431 LDI, R433 LDD. -/
def ldBlock (g : Dir) (s : State) : Result := runFixed 2 2 16 (ldIteration g) s

/-- R432 LDIR, R434 LDDR: back to `pc0` while BC ≠ 0 (R430). -/
def ldBlockRep (g : Dir) (s : State) : Result :=
  runEither 2 2 21 16
    (fun t =>
      let u := ldIteration g t
      if u.regs.bc ≠ 0 then ({ u with pc := s.pc }, true) else (u, false)) s

/-- R435 CPI, R437 CPD. -/
def cpBlock (g : Dir) (s : State) : Result := runFixed 2 2 16 (fun t => (cpIteration g t).1) s

/-- R436 CPIR, R438 CPDR: back to `pc0` while BC ≠ 0 and r ≠ 0 (R430). -/
def cpBlockRep (g : Dir) (s : State) : Result :=
  runEither 2 2 21 16
    (fun t =>
      let u := cpIteration g t
      if u.1.regs.bc ≠ 0 ∧ u.2 ≠ 0 then ({ u.1 with pc := s.pc }, true) else (u.1, false)) s

/-! ## The meanings -/

/-- R431: LDI. -/
def execLdi (s : State) : Result := ldBlock .inc s
/-- R432: LDIR. -/
def execLdir (s : State) : Result := ldBlockRep .inc s
/-- R433: LDD. -/
def execLdd (s : State) : Result := ldBlock .dec s
/-- R434: LDDR. -/
def execLddr (s : State) : Result := ldBlockRep .dec s
/-- R435: CPI. -/
def execCpi (s : State) : Result := cpBlock .inc s
/-- R436: CPIR. -/
def execCpir (s : State) : Result := cpBlockRep .inc s
/-- R437: CPD. -/
def execCpd (s : State) : Result := cpBlock .dec s
/-- R438: CPDR. -/
def execCpdr (s : State) : Result := cpBlockRep .dec s

end Sys2Proof.Machine
end

