-- ==== Sys2Proof/Machine/Control.lean ====
section
/-! DEFINITION. Control flow (46_control.md R370 to R384). After fetch PC is `next`, the address after the instruction.
First the operations, one per rule; then the meaning of each instruction, a call of its rule's operation. -/

namespace Sys2Proof.Machine

/-- `PC <- w`. -/
def State.jumpTo (s : State) (w : Word) : State := { s with pc := w }

/-- The relative target `next +_16 sext_8(e)` (R370). -/
def State.relative (s : State) (e : Byte) : State := s.jumpTo (s.pc + sext8 e)

/-- `push16(next); PC <- w` (R378, R384). -/
def State.callTo (s : State) (w : Word) : State := (s.push16 s.pc).jumpTo w

/-- `PC <- pop16()` (R380). -/
def State.returned (s : State) : State := s.popped.jumpTo s.popValue

/-- Do `f` if the condition holds; say whether it did (R370). -/
def State.whenCond (s : State) (k : Cond) (f : State → State) : State × Bool :=
  if condHolds k s.regs.f then (f s, true) else (s, false)

/-- R371 JP nn. -/
def jp (nn : Word) (s : State) : Result := runFixed 3 1 10 (fun t => t.jumpTo nn) s

/-- R372 JP cc,nn: 10 T-states taken or not. -/
def jpCond (k : Cond) (nn : Word) (s : State) : Result :=
  runEither 3 1 10 10 (fun t => t.whenCond k fun u => u.jumpTo nn) s

/-- R373 JP (HL): PC takes HL's value, no memory read. -/
def jpHL (s : State) : Result := runFixed 1 1 4 (fun t => t.jumpTo t.regs.hl) s

/-- R374 JP (IX) and JP (IY). -/
def jpIdx (x : Idx) (s : State) : Result := runFixed 2 2 8 (fun t => t.jumpTo (t.regs.getIdx x)) s

/-- R375 JR e. -/
def jr (e : Byte) (s : State) : Result := runFixed 2 1 12 (fun t => t.relative e) s

/-- R376 JR cc,e. -/
def jrCond (k : JrCond) (e : Byte) (s : State) : Result :=
  runEither 2 1 12 7 (fun t => t.whenCond (jrCondition k) fun u => u.relative e) s

/-- R377 DJNZ e. -/
def djnz (e : Byte) (s : State) : Result :=
  runEither 2 1 13 8
    (fun t =>
      let u := t.mapRegs fun g => { g with b := g.b - 1 }
      if u.regs.b ≠ 0 then (u.relative e, true) else (u, false)) s

/-- R378 CALL nn. -/
def call (nn : Word) (s : State) : Result := runFixed 3 1 17 (fun t => t.callTo nn) s

/-- R379 CALL cc,nn. -/
def callCond (k : Cond) (nn : Word) (s : State) : Result :=
  runEither 3 1 17 10 (fun t => t.whenCond k fun u => u.callTo nn) s

/-- R380 RET. -/
def ret (s : State) : Result := runFixed 1 1 10 State.returned s

/-- R381 RET cc. -/
def retCond (k : Cond) (s : State) : Result := runEither 1 1 11 5 (fun t => t.whenCond k State.returned) s

/-- R382 RETI. -/
def reti (s : State) : Result := runFixed 2 2 14 State.returnFromInterrupt s

/-- R383 RETN. -/
def retn (s : State) : Result := runFixed 2 2 14 State.returnFromInterrupt s

/-- R384 RST p, p = y · 8. -/
def rst (y : BitVec 3) (s : State) : Result :=
  runFixed 1 1 11 (fun t => t.callTo (BitVec.ofNat 16 (8 * y.toNat))) s

/-! ## The meanings -/

/-- R377: DJNZ e. -/
def execDjnz_e (n : Byte) (s : State) : Result := djnz n s
/-- R375: JR e. -/
def execJr_e (n : Byte) (s : State) : Result := jr n s
/-- R376: JR NZ,e. -/
def execJr_NZ_e (n : Byte) (s : State) : Result := jrCond .nz n s
/-- R376: JR Z,e. -/
def execJr_Z_e (n : Byte) (s : State) : Result := jrCond .z n s
/-- R376: JR NC,e. -/
def execJr_NC_e (n : Byte) (s : State) : Result := jrCond .nc n s
/-- R376: JR C,e. -/
def execJr_C_e (n : Byte) (s : State) : Result := jrCond .c n s
/-- R372: JP NZ,nn. -/
def execJp_NZ_nn (nn : Word) (s : State) : Result := jpCond .nz nn s
/-- R371: JP nn. -/
def execJp_nn (nn : Word) (s : State) : Result := jp nn s
/-- R379: CALL NZ,nn. -/
def execCall_NZ_nn (nn : Word) (s : State) : Result := callCond .nz nn s
/-- R372: JP Z,nn. -/
def execJp_Z_nn (nn : Word) (s : State) : Result := jpCond .z nn s
/-- R379: CALL Z,nn. -/
def execCall_Z_nn (nn : Word) (s : State) : Result := callCond .z nn s
/-- R378: CALL nn. -/
def execCall_nn (nn : Word) (s : State) : Result := call nn s
/-- R372: JP NC,nn. -/
def execJp_NC_nn (nn : Word) (s : State) : Result := jpCond .nc nn s
/-- R379: CALL NC,nn. -/
def execCall_NC_nn (nn : Word) (s : State) : Result := callCond .nc nn s
/-- R372: JP C,nn. -/
def execJp_C_nn (nn : Word) (s : State) : Result := jpCond .c nn s
/-- R379: CALL C,nn. -/
def execCall_C_nn (nn : Word) (s : State) : Result := callCond .c nn s
/-- R372: JP PO,nn. -/
def execJp_PO_nn (nn : Word) (s : State) : Result := jpCond .po nn s
/-- R379: CALL PO,nn. -/
def execCall_PO_nn (nn : Word) (s : State) : Result := callCond .po nn s
/-- R372: JP PE,nn. -/
def execJp_PE_nn (nn : Word) (s : State) : Result := jpCond .pe nn s
/-- R379: CALL PE,nn. -/
def execCall_PE_nn (nn : Word) (s : State) : Result := callCond .pe nn s
/-- R372: JP P,nn. -/
def execJp_P_nn (nn : Word) (s : State) : Result := jpCond .p nn s
/-- R379: CALL P,nn. -/
def execCall_P_nn (nn : Word) (s : State) : Result := callCond .p nn s
/-- R372: JP M,nn. -/
def execJp_M_nn (nn : Word) (s : State) : Result := jpCond .m nn s
/-- R379: CALL M,nn. -/
def execCall_M_nn (nn : Word) (s : State) : Result := callCond .m nn s
/-- R381: RET NZ. -/
def execRet_NZ (s : State) : Result := retCond .nz s
/-- R384: RST 00H. -/
def execRst_00 (s : State) : Result := rst 0 s
/-- R381: RET Z. -/
def execRet_Z (s : State) : Result := retCond .z s
/-- R380: RET. -/
def execRet (s : State) : Result := ret s
/-- R384: RST 08H. -/
def execRst_08 (s : State) : Result := rst 1 s
/-- R381: RET NC. -/
def execRet_NC (s : State) : Result := retCond .nc s
/-- R384: RST 10H. -/
def execRst_10 (s : State) : Result := rst 2 s
/-- R381: RET C. -/
def execRet_C (s : State) : Result := retCond .c s
/-- R384: RST 18H. -/
def execRst_18 (s : State) : Result := rst 3 s
/-- R381: RET PO. -/
def execRet_PO (s : State) : Result := retCond .po s
/-- R384: RST 20H. -/
def execRst_20 (s : State) : Result := rst 4 s
/-- R381: RET PE. -/
def execRet_PE (s : State) : Result := retCond .pe s
/-- R373: JP (HL). -/
def execJp_AtHL (s : State) : Result := jpHL s
/-- R384: RST 28H. -/
def execRst_28 (s : State) : Result := rst 5 s
/-- R381: RET P. -/
def execRet_P (s : State) : Result := retCond .p s
/-- R384: RST 30H. -/
def execRst_30 (s : State) : Result := rst 6 s
/-- R381: RET M. -/
def execRet_M (s : State) : Result := retCond .m s
/-- R384: RST 38H. -/
def execRst_38 (s : State) : Result := rst 7 s
/-- R383: RETN. -/
def execRetn (s : State) : Result := retn s
/-- R382: RETI. -/
def execReti (s : State) : Result := reti s
/-- R374: JP (IX). -/
def execJp_AtIX (s : State) : Result := jpIdx .ix s
/-- R374: JP (IY). -/
def execJp_AtIY (s : State) : Result := jpIdx .iy s

end Sys2Proof.Machine
end

