-- ==== Sys2Proof/Machine/CpuControl.lean ====
section
/-! DEFINITION. CPU control and accumulator operations (49_cpu_control.md R450 to R461).
First the operations, one per rule; then the meaning of each instruction, a call of its rule's operation. -/

namespace Sys2Proof.Machine

/-- R450 NOP. -/
def nop (s : State) : Result := runFixed 1 1 4 (fun t => t) s

/-- R451 HALT. -/
def halt (s : State) : Result := runFixed 1 1 4 (fun t => { t with halted := true }) s

/-- R452 DI. -/
def di (s : State) : Result := runFixed 1 1 4 (fun t => { t with iff1 := false, iff2 := false }) s

/-- R453 EI. -/
def ei (s : State) : Result :=
  runFixed 1 1 4
    (fun t => { t with iff1 := true, iff2 := true, eiShadow := t.params.eiShadow || t.eiShadow }) s

/-- R454 IM 0, R455 IM 1, R456 IM 2. -/
def im (m : IntMode) (s : State) : Result := runFixed 2 2 8 (fun t => { t with im := m }) s

/-- R457 NEG. -/
def neg (s : State) : Result :=
  runFixed 2 2 8
    (fun t =>
      let r := sub8 0 t.regs.a false
      (t.mapRegs fun g => g.set .a r.1).writeF maskAll maskX r.2) s

/-- R458 CPL. -/
def cpl (s : State) : Result :=
  runFixed 1 1 4
    (fun t => (t.mapRegs fun g => g.set .a (g.a ^^^ 0xFF)).writeF maskHN maskX
      (flagByte false false true false true false)) s

/-- R459 SCF. -/
def scf (s : State) : Result :=
  runFixed 1 1 4 (fun t => t.writeF maskHNC maskX (flagByte false false false false false true)) s

/-- R460 CCF: H takes the old carry. -/
def ccf (s : State) : Result :=
  runFixed 1 1 4
    (fun t => t.writeF maskHNC maskX
      (flagByte false false (flagC t.regs.f) false false (!flagC t.regs.f))) s

/-- R461 DAA. -/
def daa (s : State) : Result :=
  runFixed 1 1 4
    (fun t =>
      let r := daaResult t.regs.a (flagN t.regs.f) (flagH t.regs.f) (flagC t.regs.f)
      (t.mapRegs fun g => g.set .a r.1).writeF maskDaa maskX r.2) s

/-! ## The meanings -/

/-- R450: NOP. -/
def execNop (s : State) : Result := nop s
/-- R461: DAA. -/
def execDaa (s : State) : Result := daa s
/-- R458: CPL. -/
def execCpl (s : State) : Result := cpl s
/-- R459: SCF. -/
def execScf (s : State) : Result := scf s
/-- R460: CCF. -/
def execCcf (s : State) : Result := ccf s
/-- R451: HALT. -/
def execHalt (s : State) : Result := halt s
/-- R452: DI. -/
def execDi (s : State) : Result := di s
/-- R453: EI. -/
def execEi (s : State) : Result := ei s
/-- R457: NEG. -/
def execNeg (s : State) : Result := neg s
/-- R454: IM 0. -/
def execIm_0 (s : State) : Result := im .im0 s
/-- R455: IM 1. -/
def execIm_1 (s : State) : Result := im .im1 s
/-- R456: IM 2. -/
def execIm_2 (s : State) : Result := im .im2 s

end Sys2Proof.Machine
end

