-- ==== Sys2Proof/Machine/Io.lean ====
section
/-! DEFINITION. Input and output (47_io.md R400 to R411).
First the operations, one per rule; then the meaning of each instruction, a call of its rule's operation. -/

namespace Sys2Proof.Machine

/-- R400 IN A,(n). -/
def inAPort (n : Byte) (s : State) : Result :=
  runFixed 2 1 11
    (fun t =>
      let p := t.portRead n
      p.2.mapRegs fun g => g.set .a p.1) s

/-- R401 IN r,(C). -/
def inRegC (r : R8) (s : State) : Result :=
  runFixed 2 2 12
    (fun t =>
      let p := t.portRead t.regs.c
      (p.2.mapRegs fun g => g.set r p.1).writeF maskKeepC maskX (byteFlags p.1)) s

/-- R402 OUT (n),A. -/
def outPortA (n : Byte) (s : State) : Result := runFixed 2 1 11 (fun t => t.portWrite n t.regs.a) s

/-- R403 OUT (C),r. -/
def outCReg (r : R8) (s : State) : Result :=
  runFixed 2 2 12 (fun t => t.portWrite t.regs.c (t.regs.get r)) s

/-- The flags of the block input and output instructions: Z = (B = 0), N = 1, C kept, the others drawn (R404, D4). -/
def blockIoFlags (t : State) : State :=
  t.writeF maskZN maskIoDrawn (flagByte false (t.regs.b == 0) false false true false)

/-- One iteration of INI or IND (R404, R406). -/
def inIteration (g : Dir) (t : State) : State :=
  let p := t.portRead t.regs.c
  let u := p.2.write t.regs.hl p.1
  blockIoFlags (u.mapRegs fun q => { q.setHL (stepWord g q.hl) with b := q.b - 1 })

/-- One iteration of OUTI or OUTD: B counts down before the port write (R408, R410). -/
def outIteration (g : Dir) (t : State) : State :=
  let v := t.read t.regs.hl
  let u := (t.mapRegs fun q => { q with b := q.b - 1 }).portWrite t.regs.c v
  blockIoFlags (u.mapRegs fun q => q.setHL (stepWord g q.hl))

/-- Go back to `pc0` while B ≠ 0 (R405, R430). -/
def repeatB (pc0 : Word) (t : State) : State × Bool :=
  if t.regs.b ≠ 0 then ({ t with pc := pc0 }, true) else (t, false)

/-- R404 INI, R406 IND. -/
def inBlock (g : Dir) (s : State) : Result := runFixed 2 2 16 (inIteration g) s

/-- R405 INIR, R407 INDR. -/
def inBlockRep (g : Dir) (s : State) : Result :=
  runEither 2 2 21 16 (fun t => repeatB s.pc (inIteration g t)) s

/-- R408 OUTI, R410 OUTD. -/
def outBlock (g : Dir) (s : State) : Result := runFixed 2 2 16 (outIteration g) s

/-- R409 OTIR, R411 OTDR. -/
def outBlockRep (g : Dir) (s : State) : Result :=
  runEither 2 2 21 16 (fun t => repeatB s.pc (outIteration g t)) s

/-! ## The meanings -/

/-- R402: OUT (n),A. -/
def execOut_PortN_A (n : Byte) (s : State) : Result := outPortA n s
/-- R400: IN A,(n). -/
def execIn_A_PortN (n : Byte) (s : State) : Result := inAPort n s
/-- R401: IN B,(C). -/
def execIn_B_PortC (s : State) : Result := inRegC .b s
/-- R403: OUT (C),B. -/
def execOut_PortC_B (s : State) : Result := outCReg .b s
/-- R401: IN C,(C). -/
def execIn_C_PortC (s : State) : Result := inRegC .c s
/-- R403: OUT (C),C. -/
def execOut_PortC_C (s : State) : Result := outCReg .c s
/-- R401: IN D,(C). -/
def execIn_D_PortC (s : State) : Result := inRegC .d s
/-- R403: OUT (C),D. -/
def execOut_PortC_D (s : State) : Result := outCReg .d s
/-- R401: IN E,(C). -/
def execIn_E_PortC (s : State) : Result := inRegC .e s
/-- R403: OUT (C),E. -/
def execOut_PortC_E (s : State) : Result := outCReg .e s
/-- R401: IN H,(C). -/
def execIn_H_PortC (s : State) : Result := inRegC .h s
/-- R403: OUT (C),H. -/
def execOut_PortC_H (s : State) : Result := outCReg .h s
/-- R401: IN L,(C). -/
def execIn_L_PortC (s : State) : Result := inRegC .l s
/-- R403: OUT (C),L. -/
def execOut_PortC_L (s : State) : Result := outCReg .l s
/-- R401: IN A,(C). -/
def execIn_A_PortC (s : State) : Result := inRegC .a s
/-- R403: OUT (C),A. -/
def execOut_PortC_A (s : State) : Result := outCReg .a s
/-- R404: INI. -/
def execIni (s : State) : Result := inBlock .inc s
/-- R405: INIR. -/
def execInir (s : State) : Result := inBlockRep .inc s
/-- R406: IND. -/
def execInd (s : State) : Result := inBlock .dec s
/-- R407: INDR. -/
def execIndr (s : State) : Result := inBlockRep .dec s
/-- R408: OUTI. -/
def execOuti (s : State) : Result := outBlock .inc s
/-- R409: OTIR. -/
def execOtir (s : State) : Result := outBlockRep .inc s
/-- R410: OUTD. -/
def execOutd (s : State) : Result := outBlock .dec s
/-- R411: OTDR. -/
def execOtdr (s : State) : Result := outBlockRep .dec s

end Sys2Proof.Machine
end

