-- ==== Sys2Proof/Machine/Load16.lean ====
section
/-! DEFINITION. The 16-bit loads, the stack and the exchanges (41_load16.md R231 to R249).
First the operations, one per rule; then the meaning of each instruction, a call of its rule's operation. -/

namespace Sys2Proof.Machine

/-- R231 LD rp,nn. -/
def ldPairImm (p : Pair) (nn : Word) (s : State) : Result :=
  runFixed 3 1 10 (fun t => t.mapRegs fun g => g.setPair p nn) s

/-- R232 LD IX,nn and LD IY,nn. -/
def ldIdxImm (x : Idx) (nn : Word) (s : State) : Result :=
  runFixed 4 2 14 (fun t => t.mapRegs fun g => g.setIdx x nn) s

/-- R233 LD HL,(nn). -/
def ldHLMem (nn : Word) (s : State) : Result :=
  runFixed 3 1 16 (fun t => t.mapRegs fun g => g.setHL (t.read16 nn)) s

/-- R234 LD (nn),HL. -/
def ldMemHL (nn : Word) (s : State) : Result :=
  runFixed 3 1 16 (fun t => t.write16 nn t.regs.hl) s

/-- R235 LD rp,(nn), ED form. -/
def ldPairMem (p : Pair) (nn : Word) (s : State) : Result :=
  runFixed 4 2 20 (fun t => t.mapRegs fun g => g.setPair p (t.read16 nn)) s

/-- R236 LD (nn),rp, ED form. -/
def ldMemPair (nn : Word) (p : Pair) (s : State) : Result :=
  runFixed 4 2 20 (fun t => t.write16 nn (t.regs.getPair p)) s

/-- R237 LD IX,(nn) and LD IY,(nn). -/
def ldIdxMem (x : Idx) (nn : Word) (s : State) : Result :=
  runFixed 4 2 20 (fun t => t.mapRegs fun g => g.setIdx x (t.read16 nn)) s

/-- R238 LD (nn),IX and LD (nn),IY. -/
def ldMemIdx (nn : Word) (x : Idx) (s : State) : Result :=
  runFixed 4 2 20 (fun t => t.write16 nn (t.regs.getIdx x)) s

/-- R239 LD SP,HL. -/
def ldSPHL (s : State) : Result := runFixed 1 1 6 (fun t => t.mapRegs fun g => { g with sp := g.hl }) s

/-- R240 LD SP,IX and LD SP,IY. -/
def ldSPIdx (x : Idx) (s : State) : Result :=
  runFixed 2 2 10 (fun t => t.mapRegs fun g => { g with sp := g.getIdx x }) s

/-- R241 PUSH rp2. -/
def push (p : Pair2) (s : State) : Result := runFixed 1 1 11 (fun t => t.push16 (t.regs.getPair2 p)) s

/-- R242 PUSH IX and PUSH IY. -/
def pushIdx (x : Idx) (s : State) : Result := runFixed 2 2 15 (fun t => t.push16 (t.regs.getIdx x)) s

/-- R243 POP rp2. -/
def pop (p : Pair2) (s : State) : Result :=
  runFixed 1 1 10 (fun t => t.popped.mapRegs fun g => g.setPair2 p t.popValue) s

/-- R244 POP IX and POP IY. -/
def popIdx (x : Idx) (s : State) : Result :=
  runFixed 2 2 14 (fun t => t.popped.mapRegs fun g => g.setIdx x t.popValue) s

/-- R245 EX DE,HL. -/
def exDEHL (s : State) : Result := runFixed 1 1 4 (fun t => t.mapRegs Regs.exDEHL) s

/-- R246 EX AF,AF'. -/
def exAF (s : State) : Result := runFixed 1 1 4 (fun t => t.mapRegs Regs.exAF) s

/-- R247 EXX. -/
def exx (s : State) : Result := runFixed 1 1 4 (fun t => t.mapRegs Regs.exx) s

/-- R248 EX (SP),HL: both reads before both writes, the low byte first. -/
def exSPHL (s : State) : Result :=
  runFixed 1 1 19
    (fun t => (t.write16 t.regs.sp t.regs.hl).mapRegs fun g => g.setHL (t.read16 t.regs.sp)) s

/-- R249 EX (SP),IX and EX (SP),IY. -/
def exSPIdx (x : Idx) (s : State) : Result :=
  runFixed 2 2 23
    (fun t => (t.write16 t.regs.sp (t.regs.getIdx x)).mapRegs fun g => g.setIdx x (t.read16 t.regs.sp)) s

/-! ## The meanings -/

/-- R231: LD BC,nn. -/
def execLd_BC_nn (nn : Word) (s : State) : Result := ldPairImm .bc nn s
/-- R231: LD DE,nn. -/
def execLd_DE_nn (nn : Word) (s : State) : Result := ldPairImm .de nn s
/-- R231: LD HL,nn. -/
def execLd_HL_nn (nn : Word) (s : State) : Result := ldPairImm .hl nn s
/-- R234: LD (nn),HL. -/
def execLd_AtNN_HL (nn : Word) (s : State) : Result := ldMemHL nn s
/-- R233: LD HL,(nn). -/
def execLd_HL_AtNN (nn : Word) (s : State) : Result := ldHLMem nn s
/-- R231: LD SP,nn. -/
def execLd_SP_nn (nn : Word) (s : State) : Result := ldPairImm .sp nn s
/-- R236: LD (nn),BC. -/
def execLd_AtNN_BC (nn : Word) (s : State) : Result := ldMemPair nn .bc s
/-- R235: LD BC,(nn). -/
def execLd_BC_AtNN (nn : Word) (s : State) : Result := ldPairMem .bc nn s
/-- R236: LD (nn),DE. -/
def execLd_AtNN_DE (nn : Word) (s : State) : Result := ldMemPair nn .de s
/-- R235: LD DE,(nn). -/
def execLd_DE_AtNN (nn : Word) (s : State) : Result := ldPairMem .de nn s
/-- R236: LD (nn),HL. -/
def execLd_AtNN_HL_ed (nn : Word) (s : State) : Result := ldMemPair nn .hl s
/-- R235: LD HL,(nn). -/
def execLd_HL_AtNN_ed (nn : Word) (s : State) : Result := ldPairMem .hl nn s
/-- R236: LD (nn),SP. -/
def execLd_AtNN_SP (nn : Word) (s : State) : Result := ldMemPair nn .sp s
/-- R235: LD SP,(nn). -/
def execLd_SP_AtNN (nn : Word) (s : State) : Result := ldPairMem .sp nn s
/-- R232: LD IX,nn. -/
def execLd_IX_nn (nn : Word) (s : State) : Result := ldIdxImm .ix nn s
/-- R238: LD (nn),IX. -/
def execLd_AtNN_IX (nn : Word) (s : State) : Result := ldMemIdx nn .ix s
/-- R237: LD IX,(nn). -/
def execLd_IX_AtNN (nn : Word) (s : State) : Result := ldIdxMem .ix nn s
/-- R232: LD IY,nn. -/
def execLd_IY_nn (nn : Word) (s : State) : Result := ldIdxImm .iy nn s
/-- R238: LD (nn),IY. -/
def execLd_AtNN_IY (nn : Word) (s : State) : Result := ldMemIdx nn .iy s
/-- R237: LD IY,(nn). -/
def execLd_IY_AtNN (nn : Word) (s : State) : Result := ldIdxMem .iy nn s
/-- R246: EX AF,AF'. -/
def execEx_AF_AF (s : State) : Result := exAF s
/-- R243: POP BC. -/
def execPop_BC (s : State) : Result := pop .bc s
/-- R241: PUSH BC. -/
def execPush_BC (s : State) : Result := push .bc s
/-- R243: POP DE. -/
def execPop_DE (s : State) : Result := pop .de s
/-- R241: PUSH DE. -/
def execPush_DE (s : State) : Result := push .de s
/-- R247: EXX. -/
def execExx (s : State) : Result := exx s
/-- R243: POP HL. -/
def execPop_HL (s : State) : Result := pop .hl s
/-- R248: EX (SP),HL. -/
def execEx_AtSP_HL (s : State) : Result := exSPHL s
/-- R241: PUSH HL. -/
def execPush_HL (s : State) : Result := push .hl s
/-- R245: EX DE,HL. -/
def execEx_DE_HL (s : State) : Result := exDEHL s
/-- R243: POP AF. -/
def execPop_AF (s : State) : Result := pop .af s
/-- R241: PUSH AF. -/
def execPush_AF (s : State) : Result := push .af s
/-- R239: LD SP,HL. -/
def execLd_SP_HL (s : State) : Result := ldSPHL s
/-- R244: POP IX. -/
def execPop_IX (s : State) : Result := popIdx .ix s
/-- R249: EX (SP),IX. -/
def execEx_AtSP_IX (s : State) : Result := exSPIdx .ix s
/-- R242: PUSH IX. -/
def execPush_IX (s : State) : Result := pushIdx .ix s
/-- R240: LD SP,IX. -/
def execLd_SP_IX (s : State) : Result := ldSPIdx .ix s
/-- R244: POP IY. -/
def execPop_IY (s : State) : Result := popIdx .iy s
/-- R249: EX (SP),IY. -/
def execEx_AtSP_IY (s : State) : Result := exSPIdx .iy s
/-- R242: PUSH IY. -/
def execPush_IY (s : State) : Result := pushIdx .iy s
/-- R240: LD SP,IY. -/
def execLd_SP_IY (s : State) : Result := ldSPIdx .iy s

end Sys2Proof.Machine
end

