-- ==== Sys2Proof/Machine/Load8.lean ====
section
/-! DEFINITION. The 8-bit loads (40_load8.md R200 to R217).
First the operations, one per rule; then the meaning of each instruction, a call of its rule's operation. -/

namespace Sys2Proof.Machine

/-- R200 LD r,r'. -/
def ldRegReg (r r' : R8) (s : State) : Result :=
  runFixed 1 1 4 (fun t => t.mapRegs fun g => g.set r (g.get r')) s

/-- R201 LD r,n. -/
def ldRegImm (r : R8) (n : Byte) (s : State) : Result :=
  runFixed 2 1 7 (fun t => t.mapRegs fun g => g.set r n) s

/-- R202 LD r,(HL). -/
def ldRegHL (r : R8) (s : State) : Result :=
  runFixed 1 1 7 (fun t => t.mapRegs fun g => g.set r (t.read g.hl)) s

/-- R203 LD (HL),r. -/
def ldHLReg (r : R8) (s : State) : Result :=
  runFixed 1 1 7 (fun t => t.write t.regs.hl (t.regs.get r)) s

/-- R204 LD (HL),n. -/
def ldHLImm (n : Byte) (s : State) : Result :=
  runFixed 2 1 10 (fun t => t.write t.regs.hl n) s

/-- R205 LD r,(IX+d) and LD r,(IY+d). -/
def ldRegIdx (r : R8) (x : Idx) (d : Byte) (s : State) : Result :=
  runFixed 3 2 19 (fun t => t.mapRegs fun g => g.set r (t.read (t.ea x d))) s

/-- R206 LD (IX+d),r and LD (IY+d),r. -/
def ldIdxReg (x : Idx) (d : Byte) (r : R8) (s : State) : Result :=
  runFixed 3 2 19 (fun t => t.write (t.ea x d) (t.regs.get r)) s

/-- R207 LD (IX+d),n and LD (IY+d),n. -/
def ldIdxNum (x : Idx) (d n : Byte) (s : State) : Result :=
  runFixed 4 2 19 (fun t => t.write (t.ea x d) n) s

/-- R208 LD A,(BC). -/
def ldABC (s : State) : Result :=
  runFixed 1 1 7 (fun t => t.mapRegs fun g => g.set .a (t.read g.bc)) s

/-- R209 LD A,(DE). -/
def ldADE (s : State) : Result :=
  runFixed 1 1 7 (fun t => t.mapRegs fun g => g.set .a (t.read g.de)) s

/-- R210 LD (BC),A. -/
def ldBCA (s : State) : Result :=
  runFixed 1 1 7 (fun t => t.write t.regs.bc t.regs.a) s

/-- R211 LD (DE),A. -/
def ldDEA (s : State) : Result :=
  runFixed 1 1 7 (fun t => t.write t.regs.de t.regs.a) s

/-- R212 LD A,(nn). -/
def ldAMem (nn : Word) (s : State) : Result :=
  runFixed 3 1 13 (fun t => t.mapRegs fun g => g.set .a (t.read nn)) s

/-- R213 LD (nn),A. -/
def ldMemA (nn : Word) (s : State) : Result :=
  runFixed 3 1 13 (fun t => t.write nn t.regs.a) s

/-- The flags of LD A,I and LD A,R: S and Z from the value, H = N = 0, PV = IFF2 (R214, R215). -/
def loadFlags (v : Byte) (iff2 : Bool) : Byte := flagByte v.msb (v == 0) false iff2 false false

/-- A and its flags for LD A,I and LD A,R; C is kept (R214, R215). -/
def loadAFlags (v : Byte) (t : State) : State :=
  (t.mapRegs fun g => g.set .a v).writeF maskKeepC maskX (loadFlags v t.iff2)

/-- R214 LD A,I. -/
def ldAI (s : State) : Result := runFixed 2 2 9 (fun t => loadAFlags t.i t) s

/-- R215 LD A,R: exact under `R_READ_EXACT`, else R[7] with seven drawn bits (D5). -/
def ldAR (s : State) : Result :=
  runFixed 2 2 9
    (fun t => if t.params.rReadExact then loadAFlags t.r t
      else loadAFlags ((t.r &&& 0x80) ||| (t.drawn &&& 0x7F)) t.drew) s

/-- R216 LD I,A. -/
def ldIA (s : State) : Result := runFixed 2 2 9 (fun t => { t with i := t.regs.a }) s

/-- R217 LD R,A: all eight bits, after this instruction's own fetch count. -/
def ldRA (s : State) : Result := runFixed 2 2 9 (fun t => { t with r := t.regs.a }) s

/-! ## The meanings -/

/-- R201: LD B,n. -/
def execLd_B_n (n : Byte) (s : State) : Result := ldRegImm .b n s
/-- R201: LD C,n. -/
def execLd_C_n (n : Byte) (s : State) : Result := ldRegImm .c n s
/-- R201: LD D,n. -/
def execLd_D_n (n : Byte) (s : State) : Result := ldRegImm .d n s
/-- R201: LD E,n. -/
def execLd_E_n (n : Byte) (s : State) : Result := ldRegImm .e n s
/-- R201: LD H,n. -/
def execLd_H_n (n : Byte) (s : State) : Result := ldRegImm .h n s
/-- R201: LD L,n. -/
def execLd_L_n (n : Byte) (s : State) : Result := ldRegImm .l n s
/-- R213: LD (nn),A. -/
def execLd_AtNN_A (nn : Word) (s : State) : Result := ldMemA nn s
/-- R204: LD (HL),n. -/
def execLd_AtHL_n (n : Byte) (s : State) : Result := ldHLImm n s
/-- R212: LD A,(nn). -/
def execLd_A_AtNN (nn : Word) (s : State) : Result := ldAMem nn s
/-- R201: LD A,n. -/
def execLd_A_n (n : Byte) (s : State) : Result := ldRegImm .a n s
/-- R207: LD (IX+d),n. -/
def execLd_AtIXd_n (d n : Byte) (s : State) : Result := ldIdxNum .ix d n s
/-- R205: LD B,(IX+d). -/
def execLd_B_AtIXd (d : Byte) (s : State) : Result := ldRegIdx .b .ix d s
/-- R206: LD (IX+d),B. -/
def execLd_AtIXd_B (d : Byte) (s : State) : Result := ldIdxReg .ix d .b s
/-- R205: LD C,(IX+d). -/
def execLd_C_AtIXd (d : Byte) (s : State) : Result := ldRegIdx .c .ix d s
/-- R206: LD (IX+d),C. -/
def execLd_AtIXd_C (d : Byte) (s : State) : Result := ldIdxReg .ix d .c s
/-- R205: LD D,(IX+d). -/
def execLd_D_AtIXd (d : Byte) (s : State) : Result := ldRegIdx .d .ix d s
/-- R206: LD (IX+d),D. -/
def execLd_AtIXd_D (d : Byte) (s : State) : Result := ldIdxReg .ix d .d s
/-- R205: LD E,(IX+d). -/
def execLd_E_AtIXd (d : Byte) (s : State) : Result := ldRegIdx .e .ix d s
/-- R206: LD (IX+d),E. -/
def execLd_AtIXd_E (d : Byte) (s : State) : Result := ldIdxReg .ix d .e s
/-- R205: LD H,(IX+d). -/
def execLd_H_AtIXd (d : Byte) (s : State) : Result := ldRegIdx .h .ix d s
/-- R206: LD (IX+d),H. -/
def execLd_AtIXd_H (d : Byte) (s : State) : Result := ldIdxReg .ix d .h s
/-- R205: LD L,(IX+d). -/
def execLd_L_AtIXd (d : Byte) (s : State) : Result := ldRegIdx .l .ix d s
/-- R206: LD (IX+d),L. -/
def execLd_AtIXd_L (d : Byte) (s : State) : Result := ldIdxReg .ix d .l s
/-- R205: LD A,(IX+d). -/
def execLd_A_AtIXd (d : Byte) (s : State) : Result := ldRegIdx .a .ix d s
/-- R206: LD (IX+d),A. -/
def execLd_AtIXd_A (d : Byte) (s : State) : Result := ldIdxReg .ix d .a s
/-- R207: LD (IY+d),n. -/
def execLd_AtIYd_n (d n : Byte) (s : State) : Result := ldIdxNum .iy d n s
/-- R205: LD B,(IY+d). -/
def execLd_B_AtIYd (d : Byte) (s : State) : Result := ldRegIdx .b .iy d s
/-- R206: LD (IY+d),B. -/
def execLd_AtIYd_B (d : Byte) (s : State) : Result := ldIdxReg .iy d .b s
/-- R205: LD C,(IY+d). -/
def execLd_C_AtIYd (d : Byte) (s : State) : Result := ldRegIdx .c .iy d s
/-- R206: LD (IY+d),C. -/
def execLd_AtIYd_C (d : Byte) (s : State) : Result := ldIdxReg .iy d .c s
/-- R205: LD D,(IY+d). -/
def execLd_D_AtIYd (d : Byte) (s : State) : Result := ldRegIdx .d .iy d s
/-- R206: LD (IY+d),D. -/
def execLd_AtIYd_D (d : Byte) (s : State) : Result := ldIdxReg .iy d .d s
/-- R205: LD E,(IY+d). -/
def execLd_E_AtIYd (d : Byte) (s : State) : Result := ldRegIdx .e .iy d s
/-- R206: LD (IY+d),E. -/
def execLd_AtIYd_E (d : Byte) (s : State) : Result := ldIdxReg .iy d .e s
/-- R205: LD H,(IY+d). -/
def execLd_H_AtIYd (d : Byte) (s : State) : Result := ldRegIdx .h .iy d s
/-- R206: LD (IY+d),H. -/
def execLd_AtIYd_H (d : Byte) (s : State) : Result := ldIdxReg .iy d .h s
/-- R205: LD L,(IY+d). -/
def execLd_L_AtIYd (d : Byte) (s : State) : Result := ldRegIdx .l .iy d s
/-- R206: LD (IY+d),L. -/
def execLd_AtIYd_L (d : Byte) (s : State) : Result := ldIdxReg .iy d .l s
/-- R205: LD A,(IY+d). -/
def execLd_A_AtIYd (d : Byte) (s : State) : Result := ldRegIdx .a .iy d s
/-- R206: LD (IY+d),A. -/
def execLd_AtIYd_A (d : Byte) (s : State) : Result := ldIdxReg .iy d .a s
/-- R210: LD (BC),A. -/
def execLd_AtBC_A (s : State) : Result := ldBCA s
/-- R208: LD A,(BC). -/
def execLd_A_AtBC (s : State) : Result := ldABC s
/-- R211: LD (DE),A. -/
def execLd_AtDE_A (s : State) : Result := ldDEA s
/-- R209: LD A,(DE). -/
def execLd_A_AtDE (s : State) : Result := ldADE s
/-- R200: LD B,B. -/
def execLd_B_B (s : State) : Result := ldRegReg .b .b s
/-- R200: LD B,C. -/
def execLd_B_C (s : State) : Result := ldRegReg .b .c s
/-- R200: LD B,D. -/
def execLd_B_D (s : State) : Result := ldRegReg .b .d s
/-- R200: LD B,E. -/
def execLd_B_E (s : State) : Result := ldRegReg .b .e s
/-- R200: LD B,H. -/
def execLd_B_H (s : State) : Result := ldRegReg .b .h s
/-- R200: LD B,L. -/
def execLd_B_L (s : State) : Result := ldRegReg .b .l s
/-- R202: LD B,(HL). -/
def execLd_B_AtHL (s : State) : Result := ldRegHL .b s
/-- R200: LD B,A. -/
def execLd_B_A (s : State) : Result := ldRegReg .b .a s
/-- R200: LD C,B. -/
def execLd_C_B (s : State) : Result := ldRegReg .c .b s
/-- R200: LD C,C. -/
def execLd_C_C (s : State) : Result := ldRegReg .c .c s
/-- R200: LD C,D. -/
def execLd_C_D (s : State) : Result := ldRegReg .c .d s
/-- R200: LD C,E. -/
def execLd_C_E (s : State) : Result := ldRegReg .c .e s
/-- R200: LD C,H. -/
def execLd_C_H (s : State) : Result := ldRegReg .c .h s
/-- R200: LD C,L. -/
def execLd_C_L (s : State) : Result := ldRegReg .c .l s
/-- R202: LD C,(HL). -/
def execLd_C_AtHL (s : State) : Result := ldRegHL .c s
/-- R200: LD C,A. -/
def execLd_C_A (s : State) : Result := ldRegReg .c .a s
/-- R200: LD D,B. -/
def execLd_D_B (s : State) : Result := ldRegReg .d .b s
/-- R200: LD D,C. -/
def execLd_D_C (s : State) : Result := ldRegReg .d .c s
/-- R200: LD D,D. -/
def execLd_D_D (s : State) : Result := ldRegReg .d .d s
/-- R200: LD D,E. -/
def execLd_D_E (s : State) : Result := ldRegReg .d .e s
/-- R200: LD D,H. -/
def execLd_D_H (s : State) : Result := ldRegReg .d .h s
/-- R200: LD D,L. -/
def execLd_D_L (s : State) : Result := ldRegReg .d .l s
/-- R202: LD D,(HL). -/
def execLd_D_AtHL (s : State) : Result := ldRegHL .d s
/-- R200: LD D,A. -/
def execLd_D_A (s : State) : Result := ldRegReg .d .a s
/-- R200: LD E,B. -/
def execLd_E_B (s : State) : Result := ldRegReg .e .b s
/-- R200: LD E,C. -/
def execLd_E_C (s : State) : Result := ldRegReg .e .c s
/-- R200: LD E,D. -/
def execLd_E_D (s : State) : Result := ldRegReg .e .d s
/-- R200: LD E,E. -/
def execLd_E_E (s : State) : Result := ldRegReg .e .e s
/-- R200: LD E,H. -/
def execLd_E_H (s : State) : Result := ldRegReg .e .h s
/-- R200: LD E,L. -/
def execLd_E_L (s : State) : Result := ldRegReg .e .l s
/-- R202: LD E,(HL). -/
def execLd_E_AtHL (s : State) : Result := ldRegHL .e s
/-- R200: LD E,A. -/
def execLd_E_A (s : State) : Result := ldRegReg .e .a s
/-- R200: LD H,B. -/
def execLd_H_B (s : State) : Result := ldRegReg .h .b s
/-- R200: LD H,C. -/
def execLd_H_C (s : State) : Result := ldRegReg .h .c s
/-- R200: LD H,D. -/
def execLd_H_D (s : State) : Result := ldRegReg .h .d s
/-- R200: LD H,E. -/
def execLd_H_E (s : State) : Result := ldRegReg .h .e s
/-- R200: LD H,H. -/
def execLd_H_H (s : State) : Result := ldRegReg .h .h s
/-- R200: LD H,L. -/
def execLd_H_L (s : State) : Result := ldRegReg .h .l s
/-- R202: LD H,(HL). -/
def execLd_H_AtHL (s : State) : Result := ldRegHL .h s
/-- R200: LD H,A. -/
def execLd_H_A (s : State) : Result := ldRegReg .h .a s
/-- R200: LD L,B. -/
def execLd_L_B (s : State) : Result := ldRegReg .l .b s
/-- R200: LD L,C. -/
def execLd_L_C (s : State) : Result := ldRegReg .l .c s
/-- R200: LD L,D. -/
def execLd_L_D (s : State) : Result := ldRegReg .l .d s
/-- R200: LD L,E. -/
def execLd_L_E (s : State) : Result := ldRegReg .l .e s
/-- R200: LD L,H. -/
def execLd_L_H (s : State) : Result := ldRegReg .l .h s
/-- R200: LD L,L. -/
def execLd_L_L (s : State) : Result := ldRegReg .l .l s
/-- R202: LD L,(HL). -/
def execLd_L_AtHL (s : State) : Result := ldRegHL .l s
/-- R200: LD L,A. -/
def execLd_L_A (s : State) : Result := ldRegReg .l .a s
/-- R203: LD (HL),B. -/
def execLd_AtHL_B (s : State) : Result := ldHLReg .b s
/-- R203: LD (HL),C. -/
def execLd_AtHL_C (s : State) : Result := ldHLReg .c s
/-- R203: LD (HL),D. -/
def execLd_AtHL_D (s : State) : Result := ldHLReg .d s
/-- R203: LD (HL),E. -/
def execLd_AtHL_E (s : State) : Result := ldHLReg .e s
/-- R203: LD (HL),H. -/
def execLd_AtHL_H (s : State) : Result := ldHLReg .h s
/-- R203: LD (HL),L. -/
def execLd_AtHL_L (s : State) : Result := ldHLReg .l s
/-- R203: LD (HL),A. -/
def execLd_AtHL_A (s : State) : Result := ldHLReg .a s
/-- R200: LD A,B. -/
def execLd_A_B (s : State) : Result := ldRegReg .a .b s
/-- R200: LD A,C. -/
def execLd_A_C (s : State) : Result := ldRegReg .a .c s
/-- R200: LD A,D. -/
def execLd_A_D (s : State) : Result := ldRegReg .a .d s
/-- R200: LD A,E. -/
def execLd_A_E (s : State) : Result := ldRegReg .a .e s
/-- R200: LD A,H. -/
def execLd_A_H (s : State) : Result := ldRegReg .a .h s
/-- R200: LD A,L. -/
def execLd_A_L (s : State) : Result := ldRegReg .a .l s
/-- R202: LD A,(HL). -/
def execLd_A_AtHL (s : State) : Result := ldRegHL .a s
/-- R200: LD A,A. -/
def execLd_A_A (s : State) : Result := ldRegReg .a .a s
/-- R216: LD I,A. -/
def execLd_I_A (s : State) : Result := ldIA s
/-- R217: LD R,A. -/
def execLd_R_A (s : State) : Result := ldRA s
/-- R214: LD A,I. -/
def execLd_A_I (s : State) : Result := ldAI s
/-- R215: LD A,R. -/
def execLd_A_R (s : State) : Result := ldAR s

end Sys2Proof.Machine
end

