-- ==== Sys2Proof/Machine/Rotate.lean ====
section
/-! DEFINITION. Rotates and shifts (44_rotate_shift.md R320 to R334).
First the operations, one per rule; then the meaning of each instruction, a call of its rule's operation. -/

namespace Sys2Proof.Machine

/-- A and the flags of an accumulator rotate: C the bit moved out, H = N = 0; S, Z and PV kept (44_rotate_shift.md 1). -/
def rotA (r : Byte × Bool) (t : State) : State :=
  (t.mapRegs fun g => g.set .a r.1).writeF maskHNC maskX (flagByte false false false false false r.2)

/-- R320 RLCA. -/
def rlca (s : State) : Result := runFixed 1 1 4 (fun t => rotA (rlcBits t.regs.a) t) s

/-- R321 RRCA. -/
def rrca (s : State) : Result := runFixed 1 1 4 (fun t => rotA (rrcBits t.regs.a) t) s

/-- R322 RLA. -/
def rla (s : State) : Result := runFixed 1 1 4 (fun t => rotA (rlBits t.regs.a (flagC t.regs.f)) t) s

/-- R323 RRA. -/
def rra (s : State) : Result := runFixed 1 1 4 (fun t => rotA (rrBits t.regs.a (flagC t.regs.f)) t) s

/-- R324 to R332, the CB rotates and shifts. -/
def rot (o : RotOp) (m : Loc8) (s : State) : Result :=
  runFixed (locPick m 2 2 4) 2 (locPick m 8 15 23)
    (fun t =>
      let r := rotBits o (t.readLoc m) (flagC t.regs.f)
      (t.writeLoc m r.1).writeF maskAll maskX (rotFlags r.1 r.2)) s

/-- The byte RLD and RRD write to (HL), then A with its flags; C is kept (R333, R334). -/
def digitRotate (mem a : Byte) (t : State) : State :=
  ((t.write t.regs.hl mem).mapRegs fun g => g.set .a a).writeF maskKeepC maskX (byteFlags a)

/-- R333 RLD. -/
def rld (s : State) : Result :=
  runFixed 2 2 18
    (fun t =>
      let m := t.read t.regs.hl
      digitRotate ((m <<< 4) ||| (t.regs.a &&& 0x0F)) ((t.regs.a &&& 0xF0) ||| (m >>> 4)) t) s

/-- R334 RRD. -/
def rrd (s : State) : Result :=
  runFixed 2 2 18
    (fun t =>
      let m := t.read t.regs.hl
      digitRotate (((t.regs.a &&& 0x0F) <<< 4) ||| (m >>> 4)) ((t.regs.a &&& 0xF0) ||| (m &&& 0x0F)) t) s

/-! ## The meanings -/

/-- R325: RLC (IX+d). -/
def execRlc_AtIXd (d : Byte) (s : State) : Result := rot .rlc (.atIdx .ix d) s
/-- R326: RRC (IX+d). -/
def execRrc_AtIXd (d : Byte) (s : State) : Result := rot .rrc (.atIdx .ix d) s
/-- R327: RL (IX+d). -/
def execRl_AtIXd (d : Byte) (s : State) : Result := rot .rl (.atIdx .ix d) s
/-- R328: RR (IX+d). -/
def execRr_AtIXd (d : Byte) (s : State) : Result := rot .rr (.atIdx .ix d) s
/-- R329: SLA (IX+d). -/
def execSla_AtIXd (d : Byte) (s : State) : Result := rot .sla (.atIdx .ix d) s
/-- R330: SRA (IX+d). -/
def execSra_AtIXd (d : Byte) (s : State) : Result := rot .sra (.atIdx .ix d) s
/-- R331: SLL (IX+d). -/
def execSll_AtIXd (d : Byte) (s : State) : Result := rot .sll (.atIdx .ix d) s
/-- R332: SRL (IX+d). -/
def execSrl_AtIXd (d : Byte) (s : State) : Result := rot .srl (.atIdx .ix d) s
/-- R325: RLC (IY+d). -/
def execRlc_AtIYd (d : Byte) (s : State) : Result := rot .rlc (.atIdx .iy d) s
/-- R326: RRC (IY+d). -/
def execRrc_AtIYd (d : Byte) (s : State) : Result := rot .rrc (.atIdx .iy d) s
/-- R327: RL (IY+d). -/
def execRl_AtIYd (d : Byte) (s : State) : Result := rot .rl (.atIdx .iy d) s
/-- R328: RR (IY+d). -/
def execRr_AtIYd (d : Byte) (s : State) : Result := rot .rr (.atIdx .iy d) s
/-- R329: SLA (IY+d). -/
def execSla_AtIYd (d : Byte) (s : State) : Result := rot .sla (.atIdx .iy d) s
/-- R330: SRA (IY+d). -/
def execSra_AtIYd (d : Byte) (s : State) : Result := rot .sra (.atIdx .iy d) s
/-- R331: SLL (IY+d). -/
def execSll_AtIYd (d : Byte) (s : State) : Result := rot .sll (.atIdx .iy d) s
/-- R332: SRL (IY+d). -/
def execSrl_AtIYd (d : Byte) (s : State) : Result := rot .srl (.atIdx .iy d) s
/-- R320: RLCA. -/
def execRlca (s : State) : Result := rlca s
/-- R321: RRCA. -/
def execRrca (s : State) : Result := rrca s
/-- R322: RLA. -/
def execRla (s : State) : Result := rla s
/-- R323: RRA. -/
def execRra (s : State) : Result := rra s
/-- R325: RLC B. -/
def execRlc_B (s : State) : Result := rot .rlc (.reg .b) s
/-- R325: RLC C. -/
def execRlc_C (s : State) : Result := rot .rlc (.reg .c) s
/-- R325: RLC D. -/
def execRlc_D (s : State) : Result := rot .rlc (.reg .d) s
/-- R325: RLC E. -/
def execRlc_E (s : State) : Result := rot .rlc (.reg .e) s
/-- R325: RLC H. -/
def execRlc_H (s : State) : Result := rot .rlc (.reg .h) s
/-- R325: RLC L. -/
def execRlc_L (s : State) : Result := rot .rlc (.reg .l) s
/-- R325: RLC (HL). -/
def execRlc_AtHL (s : State) : Result := rot .rlc .atHL s
/-- R325: RLC A. -/
def execRlc_A (s : State) : Result := rot .rlc (.reg .a) s
/-- R326: RRC B. -/
def execRrc_B (s : State) : Result := rot .rrc (.reg .b) s
/-- R326: RRC C. -/
def execRrc_C (s : State) : Result := rot .rrc (.reg .c) s
/-- R326: RRC D. -/
def execRrc_D (s : State) : Result := rot .rrc (.reg .d) s
/-- R326: RRC E. -/
def execRrc_E (s : State) : Result := rot .rrc (.reg .e) s
/-- R326: RRC H. -/
def execRrc_H (s : State) : Result := rot .rrc (.reg .h) s
/-- R326: RRC L. -/
def execRrc_L (s : State) : Result := rot .rrc (.reg .l) s
/-- R326: RRC (HL). -/
def execRrc_AtHL (s : State) : Result := rot .rrc .atHL s
/-- R326: RRC A. -/
def execRrc_A (s : State) : Result := rot .rrc (.reg .a) s
/-- R327: RL B. -/
def execRl_B (s : State) : Result := rot .rl (.reg .b) s
/-- R327: RL C. -/
def execRl_C (s : State) : Result := rot .rl (.reg .c) s
/-- R327: RL D. -/
def execRl_D (s : State) : Result := rot .rl (.reg .d) s
/-- R327: RL E. -/
def execRl_E (s : State) : Result := rot .rl (.reg .e) s
/-- R327: RL H. -/
def execRl_H (s : State) : Result := rot .rl (.reg .h) s
/-- R327: RL L. -/
def execRl_L (s : State) : Result := rot .rl (.reg .l) s
/-- R327: RL (HL). -/
def execRl_AtHL (s : State) : Result := rot .rl .atHL s
/-- R327: RL A. -/
def execRl_A (s : State) : Result := rot .rl (.reg .a) s
/-- R328: RR B. -/
def execRr_B (s : State) : Result := rot .rr (.reg .b) s
/-- R328: RR C. -/
def execRr_C (s : State) : Result := rot .rr (.reg .c) s
/-- R328: RR D. -/
def execRr_D (s : State) : Result := rot .rr (.reg .d) s
/-- R328: RR E. -/
def execRr_E (s : State) : Result := rot .rr (.reg .e) s
/-- R328: RR H. -/
def execRr_H (s : State) : Result := rot .rr (.reg .h) s
/-- R328: RR L. -/
def execRr_L (s : State) : Result := rot .rr (.reg .l) s
/-- R328: RR (HL). -/
def execRr_AtHL (s : State) : Result := rot .rr .atHL s
/-- R328: RR A. -/
def execRr_A (s : State) : Result := rot .rr (.reg .a) s
/-- R329: SLA B. -/
def execSla_B (s : State) : Result := rot .sla (.reg .b) s
/-- R329: SLA C. -/
def execSla_C (s : State) : Result := rot .sla (.reg .c) s
/-- R329: SLA D. -/
def execSla_D (s : State) : Result := rot .sla (.reg .d) s
/-- R329: SLA E. -/
def execSla_E (s : State) : Result := rot .sla (.reg .e) s
/-- R329: SLA H. -/
def execSla_H (s : State) : Result := rot .sla (.reg .h) s
/-- R329: SLA L. -/
def execSla_L (s : State) : Result := rot .sla (.reg .l) s
/-- R329: SLA (HL). -/
def execSla_AtHL (s : State) : Result := rot .sla .atHL s
/-- R329: SLA A. -/
def execSla_A (s : State) : Result := rot .sla (.reg .a) s
/-- R330: SRA B. -/
def execSra_B (s : State) : Result := rot .sra (.reg .b) s
/-- R330: SRA C. -/
def execSra_C (s : State) : Result := rot .sra (.reg .c) s
/-- R330: SRA D. -/
def execSra_D (s : State) : Result := rot .sra (.reg .d) s
/-- R330: SRA E. -/
def execSra_E (s : State) : Result := rot .sra (.reg .e) s
/-- R330: SRA H. -/
def execSra_H (s : State) : Result := rot .sra (.reg .h) s
/-- R330: SRA L. -/
def execSra_L (s : State) : Result := rot .sra (.reg .l) s
/-- R330: SRA (HL). -/
def execSra_AtHL (s : State) : Result := rot .sra .atHL s
/-- R330: SRA A. -/
def execSra_A (s : State) : Result := rot .sra (.reg .a) s
/-- R331: SLL B. -/
def execSll_B (s : State) : Result := rot .sll (.reg .b) s
/-- R331: SLL C. -/
def execSll_C (s : State) : Result := rot .sll (.reg .c) s
/-- R331: SLL D. -/
def execSll_D (s : State) : Result := rot .sll (.reg .d) s
/-- R331: SLL E. -/
def execSll_E (s : State) : Result := rot .sll (.reg .e) s
/-- R331: SLL H. -/
def execSll_H (s : State) : Result := rot .sll (.reg .h) s
/-- R331: SLL L. -/
def execSll_L (s : State) : Result := rot .sll (.reg .l) s
/-- R331: SLL (HL). -/
def execSll_AtHL (s : State) : Result := rot .sll .atHL s
/-- R331: SLL A. -/
def execSll_A (s : State) : Result := rot .sll (.reg .a) s
/-- R332: SRL B. -/
def execSrl_B (s : State) : Result := rot .srl (.reg .b) s
/-- R332: SRL C. -/
def execSrl_C (s : State) : Result := rot .srl (.reg .c) s
/-- R332: SRL D. -/
def execSrl_D (s : State) : Result := rot .srl (.reg .d) s
/-- R332: SRL E. -/
def execSrl_E (s : State) : Result := rot .srl (.reg .e) s
/-- R332: SRL H. -/
def execSrl_H (s : State) : Result := rot .srl (.reg .h) s
/-- R332: SRL L. -/
def execSrl_L (s : State) : Result := rot .srl (.reg .l) s
/-- R332: SRL (HL). -/
def execSrl_AtHL (s : State) : Result := rot .srl .atHL s
/-- R332: SRL A. -/
def execSrl_A (s : State) : Result := rot .srl (.reg .a) s
/-- R334: RRD. -/
def execRrd (s : State) : Result := rrd s
/-- R333: RLD. -/
def execRld (s : State) : Result := rld s

end Sys2Proof.Machine
end

