-- ==== Sys2Proof/Machine/Dispatch.lean ====
section
/-! DEFINITION. The dispatch: one arm per instruction, each a direct call of its meaning. -/

namespace Sys2Proof.Machine

def exec (i : Instr) (s : State) : Host.Outcome State Fault Refusal :=
  match i with
  | .ld_BC_nn nn => Sys2Proof.Machine.execLd_BC_nn nn s
  | .ld_B_n n => Sys2Proof.Machine.execLd_B_n n s
  | .ld_C_n n => Sys2Proof.Machine.execLd_C_n n s
  | .djnz_e n => Sys2Proof.Machine.execDjnz_e n s
  | .ld_DE_nn nn => Sys2Proof.Machine.execLd_DE_nn nn s
  | .ld_D_n n => Sys2Proof.Machine.execLd_D_n n s
  | .jr_e n => Sys2Proof.Machine.execJr_e n s
  | .ld_E_n n => Sys2Proof.Machine.execLd_E_n n s
  | .jr_NZ_e n => Sys2Proof.Machine.execJr_NZ_e n s
  | .ld_HL_nn nn => Sys2Proof.Machine.execLd_HL_nn nn s
  | .ld_AtNN_HL nn => Sys2Proof.Machine.execLd_AtNN_HL nn s
  | .ld_H_n n => Sys2Proof.Machine.execLd_H_n n s
  | .jr_Z_e n => Sys2Proof.Machine.execJr_Z_e n s
  | .ld_HL_AtNN nn => Sys2Proof.Machine.execLd_HL_AtNN nn s
  | .ld_L_n n => Sys2Proof.Machine.execLd_L_n n s
  | .jr_NC_e n => Sys2Proof.Machine.execJr_NC_e n s
  | .ld_SP_nn nn => Sys2Proof.Machine.execLd_SP_nn nn s
  | .ld_AtNN_A nn => Sys2Proof.Machine.execLd_AtNN_A nn s
  | .ld_AtHL_n n => Sys2Proof.Machine.execLd_AtHL_n n s
  | .jr_C_e n => Sys2Proof.Machine.execJr_C_e n s
  | .ld_A_AtNN nn => Sys2Proof.Machine.execLd_A_AtNN nn s
  | .ld_A_n n => Sys2Proof.Machine.execLd_A_n n s
  | .jp_NZ_nn nn => Sys2Proof.Machine.execJp_NZ_nn nn s
  | .jp_nn nn => Sys2Proof.Machine.execJp_nn nn s
  | .call_NZ_nn nn => Sys2Proof.Machine.execCall_NZ_nn nn s
  | .add_A_n n => Sys2Proof.Machine.execAdd_A_n n s
  | .jp_Z_nn nn => Sys2Proof.Machine.execJp_Z_nn nn s
  | .call_Z_nn nn => Sys2Proof.Machine.execCall_Z_nn nn s
  | .call_nn nn => Sys2Proof.Machine.execCall_nn nn s
  | .adc_A_n n => Sys2Proof.Machine.execAdc_A_n n s
  | .jp_NC_nn nn => Sys2Proof.Machine.execJp_NC_nn nn s
  | .out_PortN_A n => Sys2Proof.Machine.execOut_PortN_A n s
  | .call_NC_nn nn => Sys2Proof.Machine.execCall_NC_nn nn s
  | .sub_n n => Sys2Proof.Machine.execSub_n n s
  | .jp_C_nn nn => Sys2Proof.Machine.execJp_C_nn nn s
  | .in_A_PortN n => Sys2Proof.Machine.execIn_A_PortN n s
  | .call_C_nn nn => Sys2Proof.Machine.execCall_C_nn nn s
  | .sbc_A_n n => Sys2Proof.Machine.execSbc_A_n n s
  | .jp_PO_nn nn => Sys2Proof.Machine.execJp_PO_nn nn s
  | .call_PO_nn nn => Sys2Proof.Machine.execCall_PO_nn nn s
  | .and_n n => Sys2Proof.Machine.execAnd_n n s
  | .jp_PE_nn nn => Sys2Proof.Machine.execJp_PE_nn nn s
  | .call_PE_nn nn => Sys2Proof.Machine.execCall_PE_nn nn s
  | .xor_n n => Sys2Proof.Machine.execXor_n n s
  | .jp_P_nn nn => Sys2Proof.Machine.execJp_P_nn nn s
  | .call_P_nn nn => Sys2Proof.Machine.execCall_P_nn nn s
  | .or_n n => Sys2Proof.Machine.execOr_n n s
  | .jp_M_nn nn => Sys2Proof.Machine.execJp_M_nn nn s
  | .call_M_nn nn => Sys2Proof.Machine.execCall_M_nn nn s
  | .cp_n n => Sys2Proof.Machine.execCp_n n s
  | .ld_AtNN_BC nn => Sys2Proof.Machine.execLd_AtNN_BC nn s
  | .ld_BC_AtNN nn => Sys2Proof.Machine.execLd_BC_AtNN nn s
  | .ld_AtNN_DE nn => Sys2Proof.Machine.execLd_AtNN_DE nn s
  | .ld_DE_AtNN nn => Sys2Proof.Machine.execLd_DE_AtNN nn s
  | .ld_AtNN_HL_ed nn => Sys2Proof.Machine.execLd_AtNN_HL_ed nn s
  | .ld_HL_AtNN_ed nn => Sys2Proof.Machine.execLd_HL_AtNN_ed nn s
  | .ld_AtNN_SP nn => Sys2Proof.Machine.execLd_AtNN_SP nn s
  | .ld_SP_AtNN nn => Sys2Proof.Machine.execLd_SP_AtNN nn s
  | .ld_IX_nn nn => Sys2Proof.Machine.execLd_IX_nn nn s
  | .ld_AtNN_IX nn => Sys2Proof.Machine.execLd_AtNN_IX nn s
  | .ld_IX_AtNN nn => Sys2Proof.Machine.execLd_IX_AtNN nn s
  | .inc_AtIXd d => Sys2Proof.Machine.execInc_AtIXd d s
  | .dec_AtIXd d => Sys2Proof.Machine.execDec_AtIXd d s
  | .ld_AtIXd_n d n => Sys2Proof.Machine.execLd_AtIXd_n d n s
  | .ld_B_AtIXd d => Sys2Proof.Machine.execLd_B_AtIXd d s
  | .ld_AtIXd_B d => Sys2Proof.Machine.execLd_AtIXd_B d s
  | .ld_C_AtIXd d => Sys2Proof.Machine.execLd_C_AtIXd d s
  | .ld_AtIXd_C d => Sys2Proof.Machine.execLd_AtIXd_C d s
  | .ld_D_AtIXd d => Sys2Proof.Machine.execLd_D_AtIXd d s
  | .ld_AtIXd_D d => Sys2Proof.Machine.execLd_AtIXd_D d s
  | .ld_E_AtIXd d => Sys2Proof.Machine.execLd_E_AtIXd d s
  | .ld_AtIXd_E d => Sys2Proof.Machine.execLd_AtIXd_E d s
  | .ld_H_AtIXd d => Sys2Proof.Machine.execLd_H_AtIXd d s
  | .ld_AtIXd_H d => Sys2Proof.Machine.execLd_AtIXd_H d s
  | .ld_L_AtIXd d => Sys2Proof.Machine.execLd_L_AtIXd d s
  | .ld_AtIXd_L d => Sys2Proof.Machine.execLd_AtIXd_L d s
  | .ld_A_AtIXd d => Sys2Proof.Machine.execLd_A_AtIXd d s
  | .ld_AtIXd_A d => Sys2Proof.Machine.execLd_AtIXd_A d s
  | .add_A_AtIXd d => Sys2Proof.Machine.execAdd_A_AtIXd d s
  | .adc_A_AtIXd d => Sys2Proof.Machine.execAdc_A_AtIXd d s
  | .sub_AtIXd d => Sys2Proof.Machine.execSub_AtIXd d s
  | .sbc_A_AtIXd d => Sys2Proof.Machine.execSbc_A_AtIXd d s
  | .and_AtIXd d => Sys2Proof.Machine.execAnd_AtIXd d s
  | .xor_AtIXd d => Sys2Proof.Machine.execXor_AtIXd d s
  | .or_AtIXd d => Sys2Proof.Machine.execOr_AtIXd d s
  | .cp_AtIXd d => Sys2Proof.Machine.execCp_AtIXd d s
  | .rlc_AtIXd d => Sys2Proof.Machine.execRlc_AtIXd d s
  | .rrc_AtIXd d => Sys2Proof.Machine.execRrc_AtIXd d s
  | .rl_AtIXd d => Sys2Proof.Machine.execRl_AtIXd d s
  | .rr_AtIXd d => Sys2Proof.Machine.execRr_AtIXd d s
  | .sla_AtIXd d => Sys2Proof.Machine.execSla_AtIXd d s
  | .sra_AtIXd d => Sys2Proof.Machine.execSra_AtIXd d s
  | .sll_AtIXd d => Sys2Proof.Machine.execSll_AtIXd d s
  | .srl_AtIXd d => Sys2Proof.Machine.execSrl_AtIXd d s
  | .bit_0_AtIXd d _ => Sys2Proof.Machine.execBit_0_AtIXd d s
  | .bit_1_AtIXd d _ => Sys2Proof.Machine.execBit_1_AtIXd d s
  | .bit_2_AtIXd d _ => Sys2Proof.Machine.execBit_2_AtIXd d s
  | .bit_3_AtIXd d _ => Sys2Proof.Machine.execBit_3_AtIXd d s
  | .bit_4_AtIXd d _ => Sys2Proof.Machine.execBit_4_AtIXd d s
  | .bit_5_AtIXd d _ => Sys2Proof.Machine.execBit_5_AtIXd d s
  | .bit_6_AtIXd d _ => Sys2Proof.Machine.execBit_6_AtIXd d s
  | .bit_7_AtIXd d _ => Sys2Proof.Machine.execBit_7_AtIXd d s
  | .res_0_AtIXd d => Sys2Proof.Machine.execRes_0_AtIXd d s
  | .res_1_AtIXd d => Sys2Proof.Machine.execRes_1_AtIXd d s
  | .res_2_AtIXd d => Sys2Proof.Machine.execRes_2_AtIXd d s
  | .res_3_AtIXd d => Sys2Proof.Machine.execRes_3_AtIXd d s
  | .res_4_AtIXd d => Sys2Proof.Machine.execRes_4_AtIXd d s
  | .res_5_AtIXd d => Sys2Proof.Machine.execRes_5_AtIXd d s
  | .res_6_AtIXd d => Sys2Proof.Machine.execRes_6_AtIXd d s
  | .res_7_AtIXd d => Sys2Proof.Machine.execRes_7_AtIXd d s
  | .set_0_AtIXd d => Sys2Proof.Machine.execSet_0_AtIXd d s
  | .set_1_AtIXd d => Sys2Proof.Machine.execSet_1_AtIXd d s
  | .set_2_AtIXd d => Sys2Proof.Machine.execSet_2_AtIXd d s
  | .set_3_AtIXd d => Sys2Proof.Machine.execSet_3_AtIXd d s
  | .set_4_AtIXd d => Sys2Proof.Machine.execSet_4_AtIXd d s
  | .set_5_AtIXd d => Sys2Proof.Machine.execSet_5_AtIXd d s
  | .set_6_AtIXd d => Sys2Proof.Machine.execSet_6_AtIXd d s
  | .set_7_AtIXd d => Sys2Proof.Machine.execSet_7_AtIXd d s
  | .ld_IY_nn nn => Sys2Proof.Machine.execLd_IY_nn nn s
  | .ld_AtNN_IY nn => Sys2Proof.Machine.execLd_AtNN_IY nn s
  | .ld_IY_AtNN nn => Sys2Proof.Machine.execLd_IY_AtNN nn s
  | .inc_AtIYd d => Sys2Proof.Machine.execInc_AtIYd d s
  | .dec_AtIYd d => Sys2Proof.Machine.execDec_AtIYd d s
  | .ld_AtIYd_n d n => Sys2Proof.Machine.execLd_AtIYd_n d n s
  | .ld_B_AtIYd d => Sys2Proof.Machine.execLd_B_AtIYd d s
  | .ld_AtIYd_B d => Sys2Proof.Machine.execLd_AtIYd_B d s
  | .ld_C_AtIYd d => Sys2Proof.Machine.execLd_C_AtIYd d s
  | .ld_AtIYd_C d => Sys2Proof.Machine.execLd_AtIYd_C d s
  | .ld_D_AtIYd d => Sys2Proof.Machine.execLd_D_AtIYd d s
  | .ld_AtIYd_D d => Sys2Proof.Machine.execLd_AtIYd_D d s
  | .ld_E_AtIYd d => Sys2Proof.Machine.execLd_E_AtIYd d s
  | .ld_AtIYd_E d => Sys2Proof.Machine.execLd_AtIYd_E d s
  | .ld_H_AtIYd d => Sys2Proof.Machine.execLd_H_AtIYd d s
  | .ld_AtIYd_H d => Sys2Proof.Machine.execLd_AtIYd_H d s
  | .ld_L_AtIYd d => Sys2Proof.Machine.execLd_L_AtIYd d s
  | .ld_AtIYd_L d => Sys2Proof.Machine.execLd_AtIYd_L d s
  | .ld_A_AtIYd d => Sys2Proof.Machine.execLd_A_AtIYd d s
  | .ld_AtIYd_A d => Sys2Proof.Machine.execLd_AtIYd_A d s
  | .add_A_AtIYd d => Sys2Proof.Machine.execAdd_A_AtIYd d s
  | .adc_A_AtIYd d => Sys2Proof.Machine.execAdc_A_AtIYd d s
  | .sub_AtIYd d => Sys2Proof.Machine.execSub_AtIYd d s
  | .sbc_A_AtIYd d => Sys2Proof.Machine.execSbc_A_AtIYd d s
  | .and_AtIYd d => Sys2Proof.Machine.execAnd_AtIYd d s
  | .xor_AtIYd d => Sys2Proof.Machine.execXor_AtIYd d s
  | .or_AtIYd d => Sys2Proof.Machine.execOr_AtIYd d s
  | .cp_AtIYd d => Sys2Proof.Machine.execCp_AtIYd d s
  | .rlc_AtIYd d => Sys2Proof.Machine.execRlc_AtIYd d s
  | .rrc_AtIYd d => Sys2Proof.Machine.execRrc_AtIYd d s
  | .rl_AtIYd d => Sys2Proof.Machine.execRl_AtIYd d s
  | .rr_AtIYd d => Sys2Proof.Machine.execRr_AtIYd d s
  | .sla_AtIYd d => Sys2Proof.Machine.execSla_AtIYd d s
  | .sra_AtIYd d => Sys2Proof.Machine.execSra_AtIYd d s
  | .sll_AtIYd d => Sys2Proof.Machine.execSll_AtIYd d s
  | .srl_AtIYd d => Sys2Proof.Machine.execSrl_AtIYd d s
  | .bit_0_AtIYd d _ => Sys2Proof.Machine.execBit_0_AtIYd d s
  | .bit_1_AtIYd d _ => Sys2Proof.Machine.execBit_1_AtIYd d s
  | .bit_2_AtIYd d _ => Sys2Proof.Machine.execBit_2_AtIYd d s
  | .bit_3_AtIYd d _ => Sys2Proof.Machine.execBit_3_AtIYd d s
  | .bit_4_AtIYd d _ => Sys2Proof.Machine.execBit_4_AtIYd d s
  | .bit_5_AtIYd d _ => Sys2Proof.Machine.execBit_5_AtIYd d s
  | .bit_6_AtIYd d _ => Sys2Proof.Machine.execBit_6_AtIYd d s
  | .bit_7_AtIYd d _ => Sys2Proof.Machine.execBit_7_AtIYd d s
  | .res_0_AtIYd d => Sys2Proof.Machine.execRes_0_AtIYd d s
  | .res_1_AtIYd d => Sys2Proof.Machine.execRes_1_AtIYd d s
  | .res_2_AtIYd d => Sys2Proof.Machine.execRes_2_AtIYd d s
  | .res_3_AtIYd d => Sys2Proof.Machine.execRes_3_AtIYd d s
  | .res_4_AtIYd d => Sys2Proof.Machine.execRes_4_AtIYd d s
  | .res_5_AtIYd d => Sys2Proof.Machine.execRes_5_AtIYd d s
  | .res_6_AtIYd d => Sys2Proof.Machine.execRes_6_AtIYd d s
  | .res_7_AtIYd d => Sys2Proof.Machine.execRes_7_AtIYd d s
  | .set_0_AtIYd d => Sys2Proof.Machine.execSet_0_AtIYd d s
  | .set_1_AtIYd d => Sys2Proof.Machine.execSet_1_AtIYd d s
  | .set_2_AtIYd d => Sys2Proof.Machine.execSet_2_AtIYd d s
  | .set_3_AtIYd d => Sys2Proof.Machine.execSet_3_AtIYd d s
  | .set_4_AtIYd d => Sys2Proof.Machine.execSet_4_AtIYd d s
  | .set_5_AtIYd d => Sys2Proof.Machine.execSet_5_AtIYd d s
  | .set_6_AtIYd d => Sys2Proof.Machine.execSet_6_AtIYd d s
  | .set_7_AtIYd d => Sys2Proof.Machine.execSet_7_AtIYd d s
  | .nop => Sys2Proof.Machine.execNop s
  | .ld_AtBC_A => Sys2Proof.Machine.execLd_AtBC_A s
  | .inc_BC => Sys2Proof.Machine.execInc_BC s
  | .inc_B => Sys2Proof.Machine.execInc_B s
  | .dec_B => Sys2Proof.Machine.execDec_B s
  | .rlca => Sys2Proof.Machine.execRlca s
  | .ex_AF_AF => Sys2Proof.Machine.execEx_AF_AF s
  | .add_HL_BC => Sys2Proof.Machine.execAdd_HL_BC s
  | .ld_A_AtBC => Sys2Proof.Machine.execLd_A_AtBC s
  | .dec_BC => Sys2Proof.Machine.execDec_BC s
  | .inc_C => Sys2Proof.Machine.execInc_C s
  | .dec_C => Sys2Proof.Machine.execDec_C s
  | .rrca => Sys2Proof.Machine.execRrca s
  | .ld_AtDE_A => Sys2Proof.Machine.execLd_AtDE_A s
  | .inc_DE => Sys2Proof.Machine.execInc_DE s
  | .inc_D => Sys2Proof.Machine.execInc_D s
  | .dec_D => Sys2Proof.Machine.execDec_D s
  | .rla => Sys2Proof.Machine.execRla s
  | .add_HL_DE => Sys2Proof.Machine.execAdd_HL_DE s
  | .ld_A_AtDE => Sys2Proof.Machine.execLd_A_AtDE s
  | .dec_DE => Sys2Proof.Machine.execDec_DE s
  | .inc_E => Sys2Proof.Machine.execInc_E s
  | .dec_E => Sys2Proof.Machine.execDec_E s
  | .rra => Sys2Proof.Machine.execRra s
  | .inc_HL => Sys2Proof.Machine.execInc_HL s
  | .inc_H => Sys2Proof.Machine.execInc_H s
  | .dec_H => Sys2Proof.Machine.execDec_H s
  | .daa => Sys2Proof.Machine.execDaa s
  | .add_HL_HL => Sys2Proof.Machine.execAdd_HL_HL s
  | .dec_HL => Sys2Proof.Machine.execDec_HL s
  | .inc_L => Sys2Proof.Machine.execInc_L s
  | .dec_L => Sys2Proof.Machine.execDec_L s
  | .cpl => Sys2Proof.Machine.execCpl s
  | .inc_SP => Sys2Proof.Machine.execInc_SP s
  | .inc_AtHL => Sys2Proof.Machine.execInc_AtHL s
  | .dec_AtHL => Sys2Proof.Machine.execDec_AtHL s
  | .scf => Sys2Proof.Machine.execScf s
  | .add_HL_SP => Sys2Proof.Machine.execAdd_HL_SP s
  | .dec_SP => Sys2Proof.Machine.execDec_SP s
  | .inc_A => Sys2Proof.Machine.execInc_A s
  | .dec_A => Sys2Proof.Machine.execDec_A s
  | .ccf => Sys2Proof.Machine.execCcf s
  | .ld_B_B => Sys2Proof.Machine.execLd_B_B s
  | .ld_B_C => Sys2Proof.Machine.execLd_B_C s
  | .ld_B_D => Sys2Proof.Machine.execLd_B_D s
  | .ld_B_E => Sys2Proof.Machine.execLd_B_E s
  | .ld_B_H => Sys2Proof.Machine.execLd_B_H s
  | .ld_B_L => Sys2Proof.Machine.execLd_B_L s
  | .ld_B_AtHL => Sys2Proof.Machine.execLd_B_AtHL s
  | .ld_B_A => Sys2Proof.Machine.execLd_B_A s
  | .ld_C_B => Sys2Proof.Machine.execLd_C_B s
  | .ld_C_C => Sys2Proof.Machine.execLd_C_C s
  | .ld_C_D => Sys2Proof.Machine.execLd_C_D s
  | .ld_C_E => Sys2Proof.Machine.execLd_C_E s
  | .ld_C_H => Sys2Proof.Machine.execLd_C_H s
  | .ld_C_L => Sys2Proof.Machine.execLd_C_L s
  | .ld_C_AtHL => Sys2Proof.Machine.execLd_C_AtHL s
  | .ld_C_A => Sys2Proof.Machine.execLd_C_A s
  | .ld_D_B => Sys2Proof.Machine.execLd_D_B s
  | .ld_D_C => Sys2Proof.Machine.execLd_D_C s
  | .ld_D_D => Sys2Proof.Machine.execLd_D_D s
  | .ld_D_E => Sys2Proof.Machine.execLd_D_E s
  | .ld_D_H => Sys2Proof.Machine.execLd_D_H s
  | .ld_D_L => Sys2Proof.Machine.execLd_D_L s
  | .ld_D_AtHL => Sys2Proof.Machine.execLd_D_AtHL s
  | .ld_D_A => Sys2Proof.Machine.execLd_D_A s
  | .ld_E_B => Sys2Proof.Machine.execLd_E_B s
  | .ld_E_C => Sys2Proof.Machine.execLd_E_C s
  | .ld_E_D => Sys2Proof.Machine.execLd_E_D s
  | .ld_E_E => Sys2Proof.Machine.execLd_E_E s
  | .ld_E_H => Sys2Proof.Machine.execLd_E_H s
  | .ld_E_L => Sys2Proof.Machine.execLd_E_L s
  | .ld_E_AtHL => Sys2Proof.Machine.execLd_E_AtHL s
  | .ld_E_A => Sys2Proof.Machine.execLd_E_A s
  | .ld_H_B => Sys2Proof.Machine.execLd_H_B s
  | .ld_H_C => Sys2Proof.Machine.execLd_H_C s
  | .ld_H_D => Sys2Proof.Machine.execLd_H_D s
  | .ld_H_E => Sys2Proof.Machine.execLd_H_E s
  | .ld_H_H => Sys2Proof.Machine.execLd_H_H s
  | .ld_H_L => Sys2Proof.Machine.execLd_H_L s
  | .ld_H_AtHL => Sys2Proof.Machine.execLd_H_AtHL s
  | .ld_H_A => Sys2Proof.Machine.execLd_H_A s
  | .ld_L_B => Sys2Proof.Machine.execLd_L_B s
  | .ld_L_C => Sys2Proof.Machine.execLd_L_C s
  | .ld_L_D => Sys2Proof.Machine.execLd_L_D s
  | .ld_L_E => Sys2Proof.Machine.execLd_L_E s
  | .ld_L_H => Sys2Proof.Machine.execLd_L_H s
  | .ld_L_L => Sys2Proof.Machine.execLd_L_L s
  | .ld_L_AtHL => Sys2Proof.Machine.execLd_L_AtHL s
  | .ld_L_A => Sys2Proof.Machine.execLd_L_A s
  | .ld_AtHL_B => Sys2Proof.Machine.execLd_AtHL_B s
  | .ld_AtHL_C => Sys2Proof.Machine.execLd_AtHL_C s
  | .ld_AtHL_D => Sys2Proof.Machine.execLd_AtHL_D s
  | .ld_AtHL_E => Sys2Proof.Machine.execLd_AtHL_E s
  | .ld_AtHL_H => Sys2Proof.Machine.execLd_AtHL_H s
  | .ld_AtHL_L => Sys2Proof.Machine.execLd_AtHL_L s
  | .halt => Sys2Proof.Machine.execHalt s
  | .ld_AtHL_A => Sys2Proof.Machine.execLd_AtHL_A s
  | .ld_A_B => Sys2Proof.Machine.execLd_A_B s
  | .ld_A_C => Sys2Proof.Machine.execLd_A_C s
  | .ld_A_D => Sys2Proof.Machine.execLd_A_D s
  | .ld_A_E => Sys2Proof.Machine.execLd_A_E s
  | .ld_A_H => Sys2Proof.Machine.execLd_A_H s
  | .ld_A_L => Sys2Proof.Machine.execLd_A_L s
  | .ld_A_AtHL => Sys2Proof.Machine.execLd_A_AtHL s
  | .ld_A_A => Sys2Proof.Machine.execLd_A_A s
  | .add_A_B => Sys2Proof.Machine.execAdd_A_B s
  | .add_A_C => Sys2Proof.Machine.execAdd_A_C s
  | .add_A_D => Sys2Proof.Machine.execAdd_A_D s
  | .add_A_E => Sys2Proof.Machine.execAdd_A_E s
  | .add_A_H => Sys2Proof.Machine.execAdd_A_H s
  | .add_A_L => Sys2Proof.Machine.execAdd_A_L s
  | .add_A_AtHL => Sys2Proof.Machine.execAdd_A_AtHL s
  | .add_A_A => Sys2Proof.Machine.execAdd_A_A s
  | .adc_A_B => Sys2Proof.Machine.execAdc_A_B s
  | .adc_A_C => Sys2Proof.Machine.execAdc_A_C s
  | .adc_A_D => Sys2Proof.Machine.execAdc_A_D s
  | .adc_A_E => Sys2Proof.Machine.execAdc_A_E s
  | .adc_A_H => Sys2Proof.Machine.execAdc_A_H s
  | .adc_A_L => Sys2Proof.Machine.execAdc_A_L s
  | .adc_A_AtHL => Sys2Proof.Machine.execAdc_A_AtHL s
  | .adc_A_A => Sys2Proof.Machine.execAdc_A_A s
  | .sub_B => Sys2Proof.Machine.execSub_B s
  | .sub_C => Sys2Proof.Machine.execSub_C s
  | .sub_D => Sys2Proof.Machine.execSub_D s
  | .sub_E => Sys2Proof.Machine.execSub_E s
  | .sub_H => Sys2Proof.Machine.execSub_H s
  | .sub_L => Sys2Proof.Machine.execSub_L s
  | .sub_AtHL => Sys2Proof.Machine.execSub_AtHL s
  | .sub_A => Sys2Proof.Machine.execSub_A s
  | .sbc_A_B => Sys2Proof.Machine.execSbc_A_B s
  | .sbc_A_C => Sys2Proof.Machine.execSbc_A_C s
  | .sbc_A_D => Sys2Proof.Machine.execSbc_A_D s
  | .sbc_A_E => Sys2Proof.Machine.execSbc_A_E s
  | .sbc_A_H => Sys2Proof.Machine.execSbc_A_H s
  | .sbc_A_L => Sys2Proof.Machine.execSbc_A_L s
  | .sbc_A_AtHL => Sys2Proof.Machine.execSbc_A_AtHL s
  | .sbc_A_A => Sys2Proof.Machine.execSbc_A_A s
  | .and_B => Sys2Proof.Machine.execAnd_B s
  | .and_C => Sys2Proof.Machine.execAnd_C s
  | .and_D => Sys2Proof.Machine.execAnd_D s
  | .and_E => Sys2Proof.Machine.execAnd_E s
  | .and_H => Sys2Proof.Machine.execAnd_H s
  | .and_L => Sys2Proof.Machine.execAnd_L s
  | .and_AtHL => Sys2Proof.Machine.execAnd_AtHL s
  | .and_A => Sys2Proof.Machine.execAnd_A s
  | .xor_B => Sys2Proof.Machine.execXor_B s
  | .xor_C => Sys2Proof.Machine.execXor_C s
  | .xor_D => Sys2Proof.Machine.execXor_D s
  | .xor_E => Sys2Proof.Machine.execXor_E s
  | .xor_H => Sys2Proof.Machine.execXor_H s
  | .xor_L => Sys2Proof.Machine.execXor_L s
  | .xor_AtHL => Sys2Proof.Machine.execXor_AtHL s
  | .xor_A => Sys2Proof.Machine.execXor_A s
  | .or_B => Sys2Proof.Machine.execOr_B s
  | .or_C => Sys2Proof.Machine.execOr_C s
  | .or_D => Sys2Proof.Machine.execOr_D s
  | .or_E => Sys2Proof.Machine.execOr_E s
  | .or_H => Sys2Proof.Machine.execOr_H s
  | .or_L => Sys2Proof.Machine.execOr_L s
  | .or_AtHL => Sys2Proof.Machine.execOr_AtHL s
  | .or_A => Sys2Proof.Machine.execOr_A s
  | .cp_B => Sys2Proof.Machine.execCp_B s
  | .cp_C => Sys2Proof.Machine.execCp_C s
  | .cp_D => Sys2Proof.Machine.execCp_D s
  | .cp_E => Sys2Proof.Machine.execCp_E s
  | .cp_H => Sys2Proof.Machine.execCp_H s
  | .cp_L => Sys2Proof.Machine.execCp_L s
  | .cp_AtHL => Sys2Proof.Machine.execCp_AtHL s
  | .cp_A => Sys2Proof.Machine.execCp_A s
  | .ret_NZ => Sys2Proof.Machine.execRet_NZ s
  | .pop_BC => Sys2Proof.Machine.execPop_BC s
  | .push_BC => Sys2Proof.Machine.execPush_BC s
  | .rst_00 => Sys2Proof.Machine.execRst_00 s
  | .ret_Z => Sys2Proof.Machine.execRet_Z s
  | .ret => Sys2Proof.Machine.execRet s
  | .rst_08 => Sys2Proof.Machine.execRst_08 s
  | .ret_NC => Sys2Proof.Machine.execRet_NC s
  | .pop_DE => Sys2Proof.Machine.execPop_DE s
  | .push_DE => Sys2Proof.Machine.execPush_DE s
  | .rst_10 => Sys2Proof.Machine.execRst_10 s
  | .ret_C => Sys2Proof.Machine.execRet_C s
  | .exx => Sys2Proof.Machine.execExx s
  | .rst_18 => Sys2Proof.Machine.execRst_18 s
  | .ret_PO => Sys2Proof.Machine.execRet_PO s
  | .pop_HL => Sys2Proof.Machine.execPop_HL s
  | .ex_AtSP_HL => Sys2Proof.Machine.execEx_AtSP_HL s
  | .push_HL => Sys2Proof.Machine.execPush_HL s
  | .rst_20 => Sys2Proof.Machine.execRst_20 s
  | .ret_PE => Sys2Proof.Machine.execRet_PE s
  | .jp_AtHL => Sys2Proof.Machine.execJp_AtHL s
  | .ex_DE_HL => Sys2Proof.Machine.execEx_DE_HL s
  | .rst_28 => Sys2Proof.Machine.execRst_28 s
  | .ret_P => Sys2Proof.Machine.execRet_P s
  | .pop_AF => Sys2Proof.Machine.execPop_AF s
  | .di => Sys2Proof.Machine.execDi s
  | .push_AF => Sys2Proof.Machine.execPush_AF s
  | .rst_30 => Sys2Proof.Machine.execRst_30 s
  | .ret_M => Sys2Proof.Machine.execRet_M s
  | .ld_SP_HL => Sys2Proof.Machine.execLd_SP_HL s
  | .ei => Sys2Proof.Machine.execEi s
  | .rst_38 => Sys2Proof.Machine.execRst_38 s
  | .rlc_B => Sys2Proof.Machine.execRlc_B s
  | .rlc_C => Sys2Proof.Machine.execRlc_C s
  | .rlc_D => Sys2Proof.Machine.execRlc_D s
  | .rlc_E => Sys2Proof.Machine.execRlc_E s
  | .rlc_H => Sys2Proof.Machine.execRlc_H s
  | .rlc_L => Sys2Proof.Machine.execRlc_L s
  | .rlc_AtHL => Sys2Proof.Machine.execRlc_AtHL s
  | .rlc_A => Sys2Proof.Machine.execRlc_A s
  | .rrc_B => Sys2Proof.Machine.execRrc_B s
  | .rrc_C => Sys2Proof.Machine.execRrc_C s
  | .rrc_D => Sys2Proof.Machine.execRrc_D s
  | .rrc_E => Sys2Proof.Machine.execRrc_E s
  | .rrc_H => Sys2Proof.Machine.execRrc_H s
  | .rrc_L => Sys2Proof.Machine.execRrc_L s
  | .rrc_AtHL => Sys2Proof.Machine.execRrc_AtHL s
  | .rrc_A => Sys2Proof.Machine.execRrc_A s
  | .rl_B => Sys2Proof.Machine.execRl_B s
  | .rl_C => Sys2Proof.Machine.execRl_C s
  | .rl_D => Sys2Proof.Machine.execRl_D s
  | .rl_E => Sys2Proof.Machine.execRl_E s
  | .rl_H => Sys2Proof.Machine.execRl_H s
  | .rl_L => Sys2Proof.Machine.execRl_L s
  | .rl_AtHL => Sys2Proof.Machine.execRl_AtHL s
  | .rl_A => Sys2Proof.Machine.execRl_A s
  | .rr_B => Sys2Proof.Machine.execRr_B s
  | .rr_C => Sys2Proof.Machine.execRr_C s
  | .rr_D => Sys2Proof.Machine.execRr_D s
  | .rr_E => Sys2Proof.Machine.execRr_E s
  | .rr_H => Sys2Proof.Machine.execRr_H s
  | .rr_L => Sys2Proof.Machine.execRr_L s
  | .rr_AtHL => Sys2Proof.Machine.execRr_AtHL s
  | .rr_A => Sys2Proof.Machine.execRr_A s
  | .sla_B => Sys2Proof.Machine.execSla_B s
  | .sla_C => Sys2Proof.Machine.execSla_C s
  | .sla_D => Sys2Proof.Machine.execSla_D s
  | .sla_E => Sys2Proof.Machine.execSla_E s
  | .sla_H => Sys2Proof.Machine.execSla_H s
  | .sla_L => Sys2Proof.Machine.execSla_L s
  | .sla_AtHL => Sys2Proof.Machine.execSla_AtHL s
  | .sla_A => Sys2Proof.Machine.execSla_A s
  | .sra_B => Sys2Proof.Machine.execSra_B s
  | .sra_C => Sys2Proof.Machine.execSra_C s
  | .sra_D => Sys2Proof.Machine.execSra_D s
  | .sra_E => Sys2Proof.Machine.execSra_E s
  | .sra_H => Sys2Proof.Machine.execSra_H s
  | .sra_L => Sys2Proof.Machine.execSra_L s
  | .sra_AtHL => Sys2Proof.Machine.execSra_AtHL s
  | .sra_A => Sys2Proof.Machine.execSra_A s
  | .sll_B => Sys2Proof.Machine.execSll_B s
  | .sll_C => Sys2Proof.Machine.execSll_C s
  | .sll_D => Sys2Proof.Machine.execSll_D s
  | .sll_E => Sys2Proof.Machine.execSll_E s
  | .sll_H => Sys2Proof.Machine.execSll_H s
  | .sll_L => Sys2Proof.Machine.execSll_L s
  | .sll_AtHL => Sys2Proof.Machine.execSll_AtHL s
  | .sll_A => Sys2Proof.Machine.execSll_A s
  | .srl_B => Sys2Proof.Machine.execSrl_B s
  | .srl_C => Sys2Proof.Machine.execSrl_C s
  | .srl_D => Sys2Proof.Machine.execSrl_D s
  | .srl_E => Sys2Proof.Machine.execSrl_E s
  | .srl_H => Sys2Proof.Machine.execSrl_H s
  | .srl_L => Sys2Proof.Machine.execSrl_L s
  | .srl_AtHL => Sys2Proof.Machine.execSrl_AtHL s
  | .srl_A => Sys2Proof.Machine.execSrl_A s
  | .bit_0_B => Sys2Proof.Machine.execBit_0_B s
  | .bit_0_C => Sys2Proof.Machine.execBit_0_C s
  | .bit_0_D => Sys2Proof.Machine.execBit_0_D s
  | .bit_0_E => Sys2Proof.Machine.execBit_0_E s
  | .bit_0_H => Sys2Proof.Machine.execBit_0_H s
  | .bit_0_L => Sys2Proof.Machine.execBit_0_L s
  | .bit_0_AtHL => Sys2Proof.Machine.execBit_0_AtHL s
  | .bit_0_A => Sys2Proof.Machine.execBit_0_A s
  | .bit_1_B => Sys2Proof.Machine.execBit_1_B s
  | .bit_1_C => Sys2Proof.Machine.execBit_1_C s
  | .bit_1_D => Sys2Proof.Machine.execBit_1_D s
  | .bit_1_E => Sys2Proof.Machine.execBit_1_E s
  | .bit_1_H => Sys2Proof.Machine.execBit_1_H s
  | .bit_1_L => Sys2Proof.Machine.execBit_1_L s
  | .bit_1_AtHL => Sys2Proof.Machine.execBit_1_AtHL s
  | .bit_1_A => Sys2Proof.Machine.execBit_1_A s
  | .bit_2_B => Sys2Proof.Machine.execBit_2_B s
  | .bit_2_C => Sys2Proof.Machine.execBit_2_C s
  | .bit_2_D => Sys2Proof.Machine.execBit_2_D s
  | .bit_2_E => Sys2Proof.Machine.execBit_2_E s
  | .bit_2_H => Sys2Proof.Machine.execBit_2_H s
  | .bit_2_L => Sys2Proof.Machine.execBit_2_L s
  | .bit_2_AtHL => Sys2Proof.Machine.execBit_2_AtHL s
  | .bit_2_A => Sys2Proof.Machine.execBit_2_A s
  | .bit_3_B => Sys2Proof.Machine.execBit_3_B s
  | .bit_3_C => Sys2Proof.Machine.execBit_3_C s
  | .bit_3_D => Sys2Proof.Machine.execBit_3_D s
  | .bit_3_E => Sys2Proof.Machine.execBit_3_E s
  | .bit_3_H => Sys2Proof.Machine.execBit_3_H s
  | .bit_3_L => Sys2Proof.Machine.execBit_3_L s
  | .bit_3_AtHL => Sys2Proof.Machine.execBit_3_AtHL s
  | .bit_3_A => Sys2Proof.Machine.execBit_3_A s
  | .bit_4_B => Sys2Proof.Machine.execBit_4_B s
  | .bit_4_C => Sys2Proof.Machine.execBit_4_C s
  | .bit_4_D => Sys2Proof.Machine.execBit_4_D s
  | .bit_4_E => Sys2Proof.Machine.execBit_4_E s
  | .bit_4_H => Sys2Proof.Machine.execBit_4_H s
  | .bit_4_L => Sys2Proof.Machine.execBit_4_L s
  | .bit_4_AtHL => Sys2Proof.Machine.execBit_4_AtHL s
  | .bit_4_A => Sys2Proof.Machine.execBit_4_A s
  | .bit_5_B => Sys2Proof.Machine.execBit_5_B s
  | .bit_5_C => Sys2Proof.Machine.execBit_5_C s
  | .bit_5_D => Sys2Proof.Machine.execBit_5_D s
  | .bit_5_E => Sys2Proof.Machine.execBit_5_E s
  | .bit_5_H => Sys2Proof.Machine.execBit_5_H s
  | .bit_5_L => Sys2Proof.Machine.execBit_5_L s
  | .bit_5_AtHL => Sys2Proof.Machine.execBit_5_AtHL s
  | .bit_5_A => Sys2Proof.Machine.execBit_5_A s
  | .bit_6_B => Sys2Proof.Machine.execBit_6_B s
  | .bit_6_C => Sys2Proof.Machine.execBit_6_C s
  | .bit_6_D => Sys2Proof.Machine.execBit_6_D s
  | .bit_6_E => Sys2Proof.Machine.execBit_6_E s
  | .bit_6_H => Sys2Proof.Machine.execBit_6_H s
  | .bit_6_L => Sys2Proof.Machine.execBit_6_L s
  | .bit_6_AtHL => Sys2Proof.Machine.execBit_6_AtHL s
  | .bit_6_A => Sys2Proof.Machine.execBit_6_A s
  | .bit_7_B => Sys2Proof.Machine.execBit_7_B s
  | .bit_7_C => Sys2Proof.Machine.execBit_7_C s
  | .bit_7_D => Sys2Proof.Machine.execBit_7_D s
  | .bit_7_E => Sys2Proof.Machine.execBit_7_E s
  | .bit_7_H => Sys2Proof.Machine.execBit_7_H s
  | .bit_7_L => Sys2Proof.Machine.execBit_7_L s
  | .bit_7_AtHL => Sys2Proof.Machine.execBit_7_AtHL s
  | .bit_7_A => Sys2Proof.Machine.execBit_7_A s
  | .res_0_B => Sys2Proof.Machine.execRes_0_B s
  | .res_0_C => Sys2Proof.Machine.execRes_0_C s
  | .res_0_D => Sys2Proof.Machine.execRes_0_D s
  | .res_0_E => Sys2Proof.Machine.execRes_0_E s
  | .res_0_H => Sys2Proof.Machine.execRes_0_H s
  | .res_0_L => Sys2Proof.Machine.execRes_0_L s
  | .res_0_AtHL => Sys2Proof.Machine.execRes_0_AtHL s
  | .res_0_A => Sys2Proof.Machine.execRes_0_A s
  | .res_1_B => Sys2Proof.Machine.execRes_1_B s
  | .res_1_C => Sys2Proof.Machine.execRes_1_C s
  | .res_1_D => Sys2Proof.Machine.execRes_1_D s
  | .res_1_E => Sys2Proof.Machine.execRes_1_E s
  | .res_1_H => Sys2Proof.Machine.execRes_1_H s
  | .res_1_L => Sys2Proof.Machine.execRes_1_L s
  | .res_1_AtHL => Sys2Proof.Machine.execRes_1_AtHL s
  | .res_1_A => Sys2Proof.Machine.execRes_1_A s
  | .res_2_B => Sys2Proof.Machine.execRes_2_B s
  | .res_2_C => Sys2Proof.Machine.execRes_2_C s
  | .res_2_D => Sys2Proof.Machine.execRes_2_D s
  | .res_2_E => Sys2Proof.Machine.execRes_2_E s
  | .res_2_H => Sys2Proof.Machine.execRes_2_H s
  | .res_2_L => Sys2Proof.Machine.execRes_2_L s
  | .res_2_AtHL => Sys2Proof.Machine.execRes_2_AtHL s
  | .res_2_A => Sys2Proof.Machine.execRes_2_A s
  | .res_3_B => Sys2Proof.Machine.execRes_3_B s
  | .res_3_C => Sys2Proof.Machine.execRes_3_C s
  | .res_3_D => Sys2Proof.Machine.execRes_3_D s
  | .res_3_E => Sys2Proof.Machine.execRes_3_E s
  | .res_3_H => Sys2Proof.Machine.execRes_3_H s
  | .res_3_L => Sys2Proof.Machine.execRes_3_L s
  | .res_3_AtHL => Sys2Proof.Machine.execRes_3_AtHL s
  | .res_3_A => Sys2Proof.Machine.execRes_3_A s
  | .res_4_B => Sys2Proof.Machine.execRes_4_B s
  | .res_4_C => Sys2Proof.Machine.execRes_4_C s
  | .res_4_D => Sys2Proof.Machine.execRes_4_D s
  | .res_4_E => Sys2Proof.Machine.execRes_4_E s
  | .res_4_H => Sys2Proof.Machine.execRes_4_H s
  | .res_4_L => Sys2Proof.Machine.execRes_4_L s
  | .res_4_AtHL => Sys2Proof.Machine.execRes_4_AtHL s
  | .res_4_A => Sys2Proof.Machine.execRes_4_A s
  | .res_5_B => Sys2Proof.Machine.execRes_5_B s
  | .res_5_C => Sys2Proof.Machine.execRes_5_C s
  | .res_5_D => Sys2Proof.Machine.execRes_5_D s
  | .res_5_E => Sys2Proof.Machine.execRes_5_E s
  | .res_5_H => Sys2Proof.Machine.execRes_5_H s
  | .res_5_L => Sys2Proof.Machine.execRes_5_L s
  | .res_5_AtHL => Sys2Proof.Machine.execRes_5_AtHL s
  | .res_5_A => Sys2Proof.Machine.execRes_5_A s
  | .res_6_B => Sys2Proof.Machine.execRes_6_B s
  | .res_6_C => Sys2Proof.Machine.execRes_6_C s
  | .res_6_D => Sys2Proof.Machine.execRes_6_D s
  | .res_6_E => Sys2Proof.Machine.execRes_6_E s
  | .res_6_H => Sys2Proof.Machine.execRes_6_H s
  | .res_6_L => Sys2Proof.Machine.execRes_6_L s
  | .res_6_AtHL => Sys2Proof.Machine.execRes_6_AtHL s
  | .res_6_A => Sys2Proof.Machine.execRes_6_A s
  | .res_7_B => Sys2Proof.Machine.execRes_7_B s
  | .res_7_C => Sys2Proof.Machine.execRes_7_C s
  | .res_7_D => Sys2Proof.Machine.execRes_7_D s
  | .res_7_E => Sys2Proof.Machine.execRes_7_E s
  | .res_7_H => Sys2Proof.Machine.execRes_7_H s
  | .res_7_L => Sys2Proof.Machine.execRes_7_L s
  | .res_7_AtHL => Sys2Proof.Machine.execRes_7_AtHL s
  | .res_7_A => Sys2Proof.Machine.execRes_7_A s
  | .set_0_B => Sys2Proof.Machine.execSet_0_B s
  | .set_0_C => Sys2Proof.Machine.execSet_0_C s
  | .set_0_D => Sys2Proof.Machine.execSet_0_D s
  | .set_0_E => Sys2Proof.Machine.execSet_0_E s
  | .set_0_H => Sys2Proof.Machine.execSet_0_H s
  | .set_0_L => Sys2Proof.Machine.execSet_0_L s
  | .set_0_AtHL => Sys2Proof.Machine.execSet_0_AtHL s
  | .set_0_A => Sys2Proof.Machine.execSet_0_A s
  | .set_1_B => Sys2Proof.Machine.execSet_1_B s
  | .set_1_C => Sys2Proof.Machine.execSet_1_C s
  | .set_1_D => Sys2Proof.Machine.execSet_1_D s
  | .set_1_E => Sys2Proof.Machine.execSet_1_E s
  | .set_1_H => Sys2Proof.Machine.execSet_1_H s
  | .set_1_L => Sys2Proof.Machine.execSet_1_L s
  | .set_1_AtHL => Sys2Proof.Machine.execSet_1_AtHL s
  | .set_1_A => Sys2Proof.Machine.execSet_1_A s
  | .set_2_B => Sys2Proof.Machine.execSet_2_B s
  | .set_2_C => Sys2Proof.Machine.execSet_2_C s
  | .set_2_D => Sys2Proof.Machine.execSet_2_D s
  | .set_2_E => Sys2Proof.Machine.execSet_2_E s
  | .set_2_H => Sys2Proof.Machine.execSet_2_H s
  | .set_2_L => Sys2Proof.Machine.execSet_2_L s
  | .set_2_AtHL => Sys2Proof.Machine.execSet_2_AtHL s
  | .set_2_A => Sys2Proof.Machine.execSet_2_A s
  | .set_3_B => Sys2Proof.Machine.execSet_3_B s
  | .set_3_C => Sys2Proof.Machine.execSet_3_C s
  | .set_3_D => Sys2Proof.Machine.execSet_3_D s
  | .set_3_E => Sys2Proof.Machine.execSet_3_E s
  | .set_3_H => Sys2Proof.Machine.execSet_3_H s
  | .set_3_L => Sys2Proof.Machine.execSet_3_L s
  | .set_3_AtHL => Sys2Proof.Machine.execSet_3_AtHL s
  | .set_3_A => Sys2Proof.Machine.execSet_3_A s
  | .set_4_B => Sys2Proof.Machine.execSet_4_B s
  | .set_4_C => Sys2Proof.Machine.execSet_4_C s
  | .set_4_D => Sys2Proof.Machine.execSet_4_D s
  | .set_4_E => Sys2Proof.Machine.execSet_4_E s
  | .set_4_H => Sys2Proof.Machine.execSet_4_H s
  | .set_4_L => Sys2Proof.Machine.execSet_4_L s
  | .set_4_AtHL => Sys2Proof.Machine.execSet_4_AtHL s
  | .set_4_A => Sys2Proof.Machine.execSet_4_A s
  | .set_5_B => Sys2Proof.Machine.execSet_5_B s
  | .set_5_C => Sys2Proof.Machine.execSet_5_C s
  | .set_5_D => Sys2Proof.Machine.execSet_5_D s
  | .set_5_E => Sys2Proof.Machine.execSet_5_E s
  | .set_5_H => Sys2Proof.Machine.execSet_5_H s
  | .set_5_L => Sys2Proof.Machine.execSet_5_L s
  | .set_5_AtHL => Sys2Proof.Machine.execSet_5_AtHL s
  | .set_5_A => Sys2Proof.Machine.execSet_5_A s
  | .set_6_B => Sys2Proof.Machine.execSet_6_B s
  | .set_6_C => Sys2Proof.Machine.execSet_6_C s
  | .set_6_D => Sys2Proof.Machine.execSet_6_D s
  | .set_6_E => Sys2Proof.Machine.execSet_6_E s
  | .set_6_H => Sys2Proof.Machine.execSet_6_H s
  | .set_6_L => Sys2Proof.Machine.execSet_6_L s
  | .set_6_AtHL => Sys2Proof.Machine.execSet_6_AtHL s
  | .set_6_A => Sys2Proof.Machine.execSet_6_A s
  | .set_7_B => Sys2Proof.Machine.execSet_7_B s
  | .set_7_C => Sys2Proof.Machine.execSet_7_C s
  | .set_7_D => Sys2Proof.Machine.execSet_7_D s
  | .set_7_E => Sys2Proof.Machine.execSet_7_E s
  | .set_7_H => Sys2Proof.Machine.execSet_7_H s
  | .set_7_L => Sys2Proof.Machine.execSet_7_L s
  | .set_7_AtHL => Sys2Proof.Machine.execSet_7_AtHL s
  | .set_7_A => Sys2Proof.Machine.execSet_7_A s
  | .in_B_PortC => Sys2Proof.Machine.execIn_B_PortC s
  | .out_PortC_B => Sys2Proof.Machine.execOut_PortC_B s
  | .in_C_PortC => Sys2Proof.Machine.execIn_C_PortC s
  | .out_PortC_C => Sys2Proof.Machine.execOut_PortC_C s
  | .in_D_PortC => Sys2Proof.Machine.execIn_D_PortC s
  | .out_PortC_D => Sys2Proof.Machine.execOut_PortC_D s
  | .in_E_PortC => Sys2Proof.Machine.execIn_E_PortC s
  | .out_PortC_E => Sys2Proof.Machine.execOut_PortC_E s
  | .in_H_PortC => Sys2Proof.Machine.execIn_H_PortC s
  | .out_PortC_H => Sys2Proof.Machine.execOut_PortC_H s
  | .in_L_PortC => Sys2Proof.Machine.execIn_L_PortC s
  | .out_PortC_L => Sys2Proof.Machine.execOut_PortC_L s
  | .in_A_PortC => Sys2Proof.Machine.execIn_A_PortC s
  | .out_PortC_A => Sys2Proof.Machine.execOut_PortC_A s
  | .sbc_HL_BC => Sys2Proof.Machine.execSbc_HL_BC s
  | .adc_HL_BC => Sys2Proof.Machine.execAdc_HL_BC s
  | .sbc_HL_DE => Sys2Proof.Machine.execSbc_HL_DE s
  | .adc_HL_DE => Sys2Proof.Machine.execAdc_HL_DE s
  | .sbc_HL_HL => Sys2Proof.Machine.execSbc_HL_HL s
  | .adc_HL_HL => Sys2Proof.Machine.execAdc_HL_HL s
  | .sbc_HL_SP => Sys2Proof.Machine.execSbc_HL_SP s
  | .adc_HL_SP => Sys2Proof.Machine.execAdc_HL_SP s
  | .neg => Sys2Proof.Machine.execNeg s
  | .retn => Sys2Proof.Machine.execRetn s
  | .reti => Sys2Proof.Machine.execReti s
  | .im_0 => Sys2Proof.Machine.execIm_0 s
  | .im_1 => Sys2Proof.Machine.execIm_1 s
  | .im_2 => Sys2Proof.Machine.execIm_2 s
  | .ld_I_A => Sys2Proof.Machine.execLd_I_A s
  | .ld_R_A => Sys2Proof.Machine.execLd_R_A s
  | .ld_A_I => Sys2Proof.Machine.execLd_A_I s
  | .ld_A_R => Sys2Proof.Machine.execLd_A_R s
  | .rrd => Sys2Proof.Machine.execRrd s
  | .rld => Sys2Proof.Machine.execRld s
  | .ldi => Sys2Proof.Machine.execLdi s
  | .ldir => Sys2Proof.Machine.execLdir s
  | .ldd => Sys2Proof.Machine.execLdd s
  | .lddr => Sys2Proof.Machine.execLddr s
  | .cpi => Sys2Proof.Machine.execCpi s
  | .cpir => Sys2Proof.Machine.execCpir s
  | .cpd => Sys2Proof.Machine.execCpd s
  | .cpdr => Sys2Proof.Machine.execCpdr s
  | .ini => Sys2Proof.Machine.execIni s
  | .inir => Sys2Proof.Machine.execInir s
  | .ind => Sys2Proof.Machine.execInd s
  | .indr => Sys2Proof.Machine.execIndr s
  | .outi => Sys2Proof.Machine.execOuti s
  | .otir => Sys2Proof.Machine.execOtir s
  | .outd => Sys2Proof.Machine.execOutd s
  | .otdr => Sys2Proof.Machine.execOtdr s
  | .add_IX_BC => Sys2Proof.Machine.execAdd_IX_BC s
  | .add_IX_DE => Sys2Proof.Machine.execAdd_IX_DE s
  | .add_IX_IX => Sys2Proof.Machine.execAdd_IX_IX s
  | .add_IX_SP => Sys2Proof.Machine.execAdd_IX_SP s
  | .inc_IX => Sys2Proof.Machine.execInc_IX s
  | .dec_IX => Sys2Proof.Machine.execDec_IX s
  | .pop_IX => Sys2Proof.Machine.execPop_IX s
  | .ex_AtSP_IX => Sys2Proof.Machine.execEx_AtSP_IX s
  | .push_IX => Sys2Proof.Machine.execPush_IX s
  | .jp_AtIX => Sys2Proof.Machine.execJp_AtIX s
  | .ld_SP_IX => Sys2Proof.Machine.execLd_SP_IX s
  | .add_IY_BC => Sys2Proof.Machine.execAdd_IY_BC s
  | .add_IY_DE => Sys2Proof.Machine.execAdd_IY_DE s
  | .add_IY_IY => Sys2Proof.Machine.execAdd_IY_IY s
  | .add_IY_SP => Sys2Proof.Machine.execAdd_IY_SP s
  | .inc_IY => Sys2Proof.Machine.execInc_IY s
  | .dec_IY => Sys2Proof.Machine.execDec_IY s
  | .pop_IY => Sys2Proof.Machine.execPop_IY s
  | .ex_AtSP_IY => Sys2Proof.Machine.execEx_AtSP_IY s
  | .push_IY => Sys2Proof.Machine.execPush_IY s
  | .jp_AtIY => Sys2Proof.Machine.execJp_AtIY s
  | .ld_SP_IY => Sys2Proof.Machine.execLd_SP_IY s

end Sys2Proof.Machine
end

