-- ==== Sys2Proof/WellFormed.lean ====
section
/-! DEFINITION. Which instructions the machine admits (30_encoding.md R160). Every operand of an instruction may hold
any value of its width; the one check is the class of its row: a row of class `unlisted` spells an instruction only if
the parameter `ADMIT_UNLISTED` is true (D1). -/

namespace Sys2Proof

/-- The class of a row of spec/opcode_table.json (R160). -/
inductive RowClass where
  | listed | unlisted | undocSll | aliasBit
  deriving DecidableEq, Repr

/-- The class of an instruction's row (R160, R173, R174, R176). -/
def Op.rowClass : Op → RowClass
  | .ldIA | .ldRA | .ldPairMem _ _ | .ldMemPair _ _ => .unlisted
  | .reti | .retn | .rld | .rrd => .unlisted
  | .cpBlock .dec | .cpBlockRep .dec => .unlisted
  | .inBlock .dec | .inBlockRep .dec | .outBlockRep .dec => .unlisted
  | .rot .sll _ => .undocSll
  | .bitTestIdx _ _ _ z => if z = 0b110 then .listed else .aliasBit
  | _ => .listed

/-- The class of an instruction's row (R160). -/
def Instr.rowClass (i : Instr) : RowClass := i.op.rowClass

/-- R160: a row of class `unlisted` is admitted iff `ADMIT_UNLISTED` is true; every other row is admitted. -/
def Instr.admitted (p : Params) (i : Instr) : Bool := p.admitUnlisted || i.rowClass != .unlisted

/-- An instruction is well formed on a machine that admits its row. -/
abbrev WellFormed (p : Params) (i : Instr) : Prop := i.admitted p = true

end Sys2Proof
end

