-- ==== Sys2Proof/Decode.lean ====
section
/-! DEFINITION. The decoder (30_encoding.md R169, R170): five tables of sixteen rows of sixteen opcodes, written from
spec/opcode_table.json, and their lookup. Then the encoder, written from the field encodings of R161 to R176 and not
from the tables, and `decodeTableWord`, the decoder on a word numbered as the opcode table numbers it. -/

namespace Sys2Proof

/-! ## The tables -/

/-- What a table holds at one opcode: no instruction, or an instruction that waits for its operand bytes (R161). -/
inductive OpcodeEntry where
  /-- No admitted row (R177), or one of the four lead bytes. -/
  | unknown
  /-- No operand bytes. -/
  | plain (i : Instr)
  /-- One operand byte: n, e or d. -/
  | byte (f : Byte → Instr)
  /-- Two operand bytes, low first: nn (R171). -/
  | word (f : Word → Instr)
  /-- A displacement, then an immediate: LD (IX+d),n. -/
  | dispImm (f : Byte → Byte → Instr)

/-- Opcodes 0x00 to 0x0F of the main table (R172). -/
def mainRow0 : List OpcodeEntry :=
  [.plain .nop, .word .ld_BC_nn, .plain .ld_AtBC_A, .plain .inc_BC,
   .plain .inc_B, .plain .dec_B, .byte .ld_B_n, .plain .rlca,
   .plain .ex_AF_AF, .plain .add_HL_BC, .plain .ld_A_AtBC, .plain .dec_BC,
   .plain .inc_C, .plain .dec_C, .byte .ld_C_n, .plain .rrca]

/-- Opcodes 0x10 to 0x1F of the main table (R172). -/
def mainRow1 : List OpcodeEntry :=
  [.byte .djnz_e, .word .ld_DE_nn, .plain .ld_AtDE_A, .plain .inc_DE,
   .plain .inc_D, .plain .dec_D, .byte .ld_D_n, .plain .rla,
   .byte .jr_e, .plain .add_HL_DE, .plain .ld_A_AtDE, .plain .dec_DE,
   .plain .inc_E, .plain .dec_E, .byte .ld_E_n, .plain .rra]

/-- Opcodes 0x20 to 0x2F of the main table (R172). -/
def mainRow2 : List OpcodeEntry :=
  [.byte .jr_NZ_e, .word .ld_HL_nn, .word .ld_AtNN_HL, .plain .inc_HL,
   .plain .inc_H, .plain .dec_H, .byte .ld_H_n, .plain .daa,
   .byte .jr_Z_e, .plain .add_HL_HL, .word .ld_HL_AtNN, .plain .dec_HL,
   .plain .inc_L, .plain .dec_L, .byte .ld_L_n, .plain .cpl]

/-- Opcodes 0x30 to 0x3F of the main table (R172). -/
def mainRow3 : List OpcodeEntry :=
  [.byte .jr_NC_e, .word .ld_SP_nn, .word .ld_AtNN_A, .plain .inc_SP,
   .plain .inc_AtHL, .plain .dec_AtHL, .byte .ld_AtHL_n, .plain .scf,
   .byte .jr_C_e, .plain .add_HL_SP, .word .ld_A_AtNN, .plain .dec_SP,
   .plain .inc_A, .plain .dec_A, .byte .ld_A_n, .plain .ccf]

/-- Opcodes 0x40 to 0x4F of the main table (R172). -/
def mainRow4 : List OpcodeEntry :=
  [.plain .ld_B_B, .plain .ld_B_C, .plain .ld_B_D, .plain .ld_B_E,
   .plain .ld_B_H, .plain .ld_B_L, .plain .ld_B_AtHL, .plain .ld_B_A,
   .plain .ld_C_B, .plain .ld_C_C, .plain .ld_C_D, .plain .ld_C_E,
   .plain .ld_C_H, .plain .ld_C_L, .plain .ld_C_AtHL, .plain .ld_C_A]

/-- Opcodes 0x50 to 0x5F of the main table (R172). -/
def mainRow5 : List OpcodeEntry :=
  [.plain .ld_D_B, .plain .ld_D_C, .plain .ld_D_D, .plain .ld_D_E,
   .plain .ld_D_H, .plain .ld_D_L, .plain .ld_D_AtHL, .plain .ld_D_A,
   .plain .ld_E_B, .plain .ld_E_C, .plain .ld_E_D, .plain .ld_E_E,
   .plain .ld_E_H, .plain .ld_E_L, .plain .ld_E_AtHL, .plain .ld_E_A]

/-- Opcodes 0x60 to 0x6F of the main table (R172). -/
def mainRow6 : List OpcodeEntry :=
  [.plain .ld_H_B, .plain .ld_H_C, .plain .ld_H_D, .plain .ld_H_E,
   .plain .ld_H_H, .plain .ld_H_L, .plain .ld_H_AtHL, .plain .ld_H_A,
   .plain .ld_L_B, .plain .ld_L_C, .plain .ld_L_D, .plain .ld_L_E,
   .plain .ld_L_H, .plain .ld_L_L, .plain .ld_L_AtHL, .plain .ld_L_A]

/-- Opcodes 0x70 to 0x7F of the main table (R172). -/
def mainRow7 : List OpcodeEntry :=
  [.plain .ld_AtHL_B, .plain .ld_AtHL_C, .plain .ld_AtHL_D, .plain .ld_AtHL_E,
   .plain .ld_AtHL_H, .plain .ld_AtHL_L, .plain .halt, .plain .ld_AtHL_A,
   .plain .ld_A_B, .plain .ld_A_C, .plain .ld_A_D, .plain .ld_A_E,
   .plain .ld_A_H, .plain .ld_A_L, .plain .ld_A_AtHL, .plain .ld_A_A]

/-- Opcodes 0x80 to 0x8F of the main table (R172). -/
def mainRow8 : List OpcodeEntry :=
  [.plain .add_A_B, .plain .add_A_C, .plain .add_A_D, .plain .add_A_E,
   .plain .add_A_H, .plain .add_A_L, .plain .add_A_AtHL, .plain .add_A_A,
   .plain .adc_A_B, .plain .adc_A_C, .plain .adc_A_D, .plain .adc_A_E,
   .plain .adc_A_H, .plain .adc_A_L, .plain .adc_A_AtHL, .plain .adc_A_A]

/-- Opcodes 0x90 to 0x9F of the main table (R172). -/
def mainRow9 : List OpcodeEntry :=
  [.plain .sub_B, .plain .sub_C, .plain .sub_D, .plain .sub_E,
   .plain .sub_H, .plain .sub_L, .plain .sub_AtHL, .plain .sub_A,
   .plain .sbc_A_B, .plain .sbc_A_C, .plain .sbc_A_D, .plain .sbc_A_E,
   .plain .sbc_A_H, .plain .sbc_A_L, .plain .sbc_A_AtHL, .plain .sbc_A_A]

/-- Opcodes 0xA0 to 0xAF of the main table (R172). -/
def mainRowA : List OpcodeEntry :=
  [.plain .and_B, .plain .and_C, .plain .and_D, .plain .and_E,
   .plain .and_H, .plain .and_L, .plain .and_AtHL, .plain .and_A,
   .plain .xor_B, .plain .xor_C, .plain .xor_D, .plain .xor_E,
   .plain .xor_H, .plain .xor_L, .plain .xor_AtHL, .plain .xor_A]

/-- Opcodes 0xB0 to 0xBF of the main table (R172). -/
def mainRowB : List OpcodeEntry :=
  [.plain .or_B, .plain .or_C, .plain .or_D, .plain .or_E,
   .plain .or_H, .plain .or_L, .plain .or_AtHL, .plain .or_A,
   .plain .cp_B, .plain .cp_C, .plain .cp_D, .plain .cp_E,
   .plain .cp_H, .plain .cp_L, .plain .cp_AtHL, .plain .cp_A]

/-- Opcodes 0xC0 to 0xCF of the main table (R172). -/
def mainRowC : List OpcodeEntry :=
  [.plain .ret_NZ, .plain .pop_BC, .word .jp_NZ_nn, .word .jp_nn,
   .word .call_NZ_nn, .plain .push_BC, .byte .add_A_n, .plain .rst_00,
   .plain .ret_Z, .plain .ret, .word .jp_Z_nn, .unknown,
   .word .call_Z_nn, .word .call_nn, .byte .adc_A_n, .plain .rst_08]

/-- Opcodes 0xD0 to 0xDF of the main table (R172). -/
def mainRowD : List OpcodeEntry :=
  [.plain .ret_NC, .plain .pop_DE, .word .jp_NC_nn, .byte .out_PortN_A,
   .word .call_NC_nn, .plain .push_DE, .byte .sub_n, .plain .rst_10,
   .plain .ret_C, .plain .exx, .word .jp_C_nn, .byte .in_A_PortN,
   .word .call_C_nn, .unknown, .byte .sbc_A_n, .plain .rst_18]

/-- Opcodes 0xE0 to 0xEF of the main table (R172). -/
def mainRowE : List OpcodeEntry :=
  [.plain .ret_PO, .plain .pop_HL, .word .jp_PO_nn, .plain .ex_AtSP_HL,
   .word .call_PO_nn, .plain .push_HL, .byte .and_n, .plain .rst_20,
   .plain .ret_PE, .plain .jp_AtHL, .word .jp_PE_nn, .plain .ex_DE_HL,
   .word .call_PE_nn, .unknown, .byte .xor_n, .plain .rst_28]

/-- Opcodes 0xF0 to 0xFF of the main table (R172). -/
def mainRowF : List OpcodeEntry :=
  [.plain .ret_P, .plain .pop_AF, .word .jp_P_nn, .plain .di,
   .word .call_P_nn, .plain .push_AF, .byte .or_n, .plain .rst_30,
   .plain .ret_M, .plain .ld_SP_HL, .word .jp_M_nn, .plain .ei,
   .word .call_M_nn, .unknown, .byte .cp_n, .plain .rst_38]

/-- The main table (R172). -/
def mainTable : List (List OpcodeEntry) :=
  [mainRow0, mainRow1, mainRow2, mainRow3, mainRow4, mainRow5, mainRow6, mainRow7,
   mainRow8, mainRow9, mainRowA, mainRowB, mainRowC, mainRowD, mainRowE, mainRowF]

/-- Opcodes 0x00 to 0x0F of the CB table (R173). -/
def cbRow0 : List OpcodeEntry :=
  [.plain .rlc_B, .plain .rlc_C, .plain .rlc_D, .plain .rlc_E,
   .plain .rlc_H, .plain .rlc_L, .plain .rlc_AtHL, .plain .rlc_A,
   .plain .rrc_B, .plain .rrc_C, .plain .rrc_D, .plain .rrc_E,
   .plain .rrc_H, .plain .rrc_L, .plain .rrc_AtHL, .plain .rrc_A]

/-- Opcodes 0x10 to 0x1F of the CB table (R173). -/
def cbRow1 : List OpcodeEntry :=
  [.plain .rl_B, .plain .rl_C, .plain .rl_D, .plain .rl_E,
   .plain .rl_H, .plain .rl_L, .plain .rl_AtHL, .plain .rl_A,
   .plain .rr_B, .plain .rr_C, .plain .rr_D, .plain .rr_E,
   .plain .rr_H, .plain .rr_L, .plain .rr_AtHL, .plain .rr_A]

/-- Opcodes 0x20 to 0x2F of the CB table (R173). -/
def cbRow2 : List OpcodeEntry :=
  [.plain .sla_B, .plain .sla_C, .plain .sla_D, .plain .sla_E,
   .plain .sla_H, .plain .sla_L, .plain .sla_AtHL, .plain .sla_A,
   .plain .sra_B, .plain .sra_C, .plain .sra_D, .plain .sra_E,
   .plain .sra_H, .plain .sra_L, .plain .sra_AtHL, .plain .sra_A]

/-- Opcodes 0x30 to 0x3F of the CB table (R173). -/
def cbRow3 : List OpcodeEntry :=
  [.plain .sll_B, .plain .sll_C, .plain .sll_D, .plain .sll_E,
   .plain .sll_H, .plain .sll_L, .plain .sll_AtHL, .plain .sll_A,
   .plain .srl_B, .plain .srl_C, .plain .srl_D, .plain .srl_E,
   .plain .srl_H, .plain .srl_L, .plain .srl_AtHL, .plain .srl_A]

/-- Opcodes 0x40 to 0x4F of the CB table (R173). -/
def cbRow4 : List OpcodeEntry :=
  [.plain .bit_0_B, .plain .bit_0_C, .plain .bit_0_D, .plain .bit_0_E,
   .plain .bit_0_H, .plain .bit_0_L, .plain .bit_0_AtHL, .plain .bit_0_A,
   .plain .bit_1_B, .plain .bit_1_C, .plain .bit_1_D, .plain .bit_1_E,
   .plain .bit_1_H, .plain .bit_1_L, .plain .bit_1_AtHL, .plain .bit_1_A]

/-- Opcodes 0x50 to 0x5F of the CB table (R173). -/
def cbRow5 : List OpcodeEntry :=
  [.plain .bit_2_B, .plain .bit_2_C, .plain .bit_2_D, .plain .bit_2_E,
   .plain .bit_2_H, .plain .bit_2_L, .plain .bit_2_AtHL, .plain .bit_2_A,
   .plain .bit_3_B, .plain .bit_3_C, .plain .bit_3_D, .plain .bit_3_E,
   .plain .bit_3_H, .plain .bit_3_L, .plain .bit_3_AtHL, .plain .bit_3_A]

/-- Opcodes 0x60 to 0x6F of the CB table (R173). -/
def cbRow6 : List OpcodeEntry :=
  [.plain .bit_4_B, .plain .bit_4_C, .plain .bit_4_D, .plain .bit_4_E,
   .plain .bit_4_H, .plain .bit_4_L, .plain .bit_4_AtHL, .plain .bit_4_A,
   .plain .bit_5_B, .plain .bit_5_C, .plain .bit_5_D, .plain .bit_5_E,
   .plain .bit_5_H, .plain .bit_5_L, .plain .bit_5_AtHL, .plain .bit_5_A]

/-- Opcodes 0x70 to 0x7F of the CB table (R173). -/
def cbRow7 : List OpcodeEntry :=
  [.plain .bit_6_B, .plain .bit_6_C, .plain .bit_6_D, .plain .bit_6_E,
   .plain .bit_6_H, .plain .bit_6_L, .plain .bit_6_AtHL, .plain .bit_6_A,
   .plain .bit_7_B, .plain .bit_7_C, .plain .bit_7_D, .plain .bit_7_E,
   .plain .bit_7_H, .plain .bit_7_L, .plain .bit_7_AtHL, .plain .bit_7_A]

/-- Opcodes 0x80 to 0x8F of the CB table (R173). -/
def cbRow8 : List OpcodeEntry :=
  [.plain .res_0_B, .plain .res_0_C, .plain .res_0_D, .plain .res_0_E,
   .plain .res_0_H, .plain .res_0_L, .plain .res_0_AtHL, .plain .res_0_A,
   .plain .res_1_B, .plain .res_1_C, .plain .res_1_D, .plain .res_1_E,
   .plain .res_1_H, .plain .res_1_L, .plain .res_1_AtHL, .plain .res_1_A]

/-- Opcodes 0x90 to 0x9F of the CB table (R173). -/
def cbRow9 : List OpcodeEntry :=
  [.plain .res_2_B, .plain .res_2_C, .plain .res_2_D, .plain .res_2_E,
   .plain .res_2_H, .plain .res_2_L, .plain .res_2_AtHL, .plain .res_2_A,
   .plain .res_3_B, .plain .res_3_C, .plain .res_3_D, .plain .res_3_E,
   .plain .res_3_H, .plain .res_3_L, .plain .res_3_AtHL, .plain .res_3_A]

/-- Opcodes 0xA0 to 0xAF of the CB table (R173). -/
def cbRowA : List OpcodeEntry :=
  [.plain .res_4_B, .plain .res_4_C, .plain .res_4_D, .plain .res_4_E,
   .plain .res_4_H, .plain .res_4_L, .plain .res_4_AtHL, .plain .res_4_A,
   .plain .res_5_B, .plain .res_5_C, .plain .res_5_D, .plain .res_5_E,
   .plain .res_5_H, .plain .res_5_L, .plain .res_5_AtHL, .plain .res_5_A]

/-- Opcodes 0xB0 to 0xBF of the CB table (R173). -/
def cbRowB : List OpcodeEntry :=
  [.plain .res_6_B, .plain .res_6_C, .plain .res_6_D, .plain .res_6_E,
   .plain .res_6_H, .plain .res_6_L, .plain .res_6_AtHL, .plain .res_6_A,
   .plain .res_7_B, .plain .res_7_C, .plain .res_7_D, .plain .res_7_E,
   .plain .res_7_H, .plain .res_7_L, .plain .res_7_AtHL, .plain .res_7_A]

/-- Opcodes 0xC0 to 0xCF of the CB table (R173). -/
def cbRowC : List OpcodeEntry :=
  [.plain .set_0_B, .plain .set_0_C, .plain .set_0_D, .plain .set_0_E,
   .plain .set_0_H, .plain .set_0_L, .plain .set_0_AtHL, .plain .set_0_A,
   .plain .set_1_B, .plain .set_1_C, .plain .set_1_D, .plain .set_1_E,
   .plain .set_1_H, .plain .set_1_L, .plain .set_1_AtHL, .plain .set_1_A]

/-- Opcodes 0xD0 to 0xDF of the CB table (R173). -/
def cbRowD : List OpcodeEntry :=
  [.plain .set_2_B, .plain .set_2_C, .plain .set_2_D, .plain .set_2_E,
   .plain .set_2_H, .plain .set_2_L, .plain .set_2_AtHL, .plain .set_2_A,
   .plain .set_3_B, .plain .set_3_C, .plain .set_3_D, .plain .set_3_E,
   .plain .set_3_H, .plain .set_3_L, .plain .set_3_AtHL, .plain .set_3_A]

/-- Opcodes 0xE0 to 0xEF of the CB table (R173). -/
def cbRowE : List OpcodeEntry :=
  [.plain .set_4_B, .plain .set_4_C, .plain .set_4_D, .plain .set_4_E,
   .plain .set_4_H, .plain .set_4_L, .plain .set_4_AtHL, .plain .set_4_A,
   .plain .set_5_B, .plain .set_5_C, .plain .set_5_D, .plain .set_5_E,
   .plain .set_5_H, .plain .set_5_L, .plain .set_5_AtHL, .plain .set_5_A]

/-- Opcodes 0xF0 to 0xFF of the CB table (R173). -/
def cbRowF : List OpcodeEntry :=
  [.plain .set_6_B, .plain .set_6_C, .plain .set_6_D, .plain .set_6_E,
   .plain .set_6_H, .plain .set_6_L, .plain .set_6_AtHL, .plain .set_6_A,
   .plain .set_7_B, .plain .set_7_C, .plain .set_7_D, .plain .set_7_E,
   .plain .set_7_H, .plain .set_7_L, .plain .set_7_AtHL, .plain .set_7_A]

/-- The CB table (R173). -/
def cbTable : List (List OpcodeEntry) :=
  [cbRow0, cbRow1, cbRow2, cbRow3, cbRow4, cbRow5, cbRow6, cbRow7,
   cbRow8, cbRow9, cbRowA, cbRowB, cbRowC, cbRowD, cbRowE, cbRowF]

/-- Opcodes 0x40 to 0x4F of the ED table (R174). -/
def edRow4 : List OpcodeEntry :=
  [.plain .in_B_PortC, .plain .out_PortC_B, .plain .sbc_HL_BC, .word .ld_AtNN_BC,
   .plain .neg, .plain .retn, .plain .im_0, .plain .ld_I_A,
   .plain .in_C_PortC, .plain .out_PortC_C, .plain .adc_HL_BC, .word .ld_BC_AtNN,
   .unknown, .plain .reti, .unknown, .plain .ld_R_A]

/-- Opcodes 0x50 to 0x5F of the ED table (R174). -/
def edRow5 : List OpcodeEntry :=
  [.plain .in_D_PortC, .plain .out_PortC_D, .plain .sbc_HL_DE, .word .ld_AtNN_DE,
   .unknown, .unknown, .plain .im_1, .plain .ld_A_I,
   .plain .in_E_PortC, .plain .out_PortC_E, .plain .adc_HL_DE, .word .ld_DE_AtNN,
   .unknown, .unknown, .plain .im_2, .plain .ld_A_R]

/-- Opcodes 0x60 to 0x6F of the ED table (R174). -/
def edRow6 : List OpcodeEntry :=
  [.plain .in_H_PortC, .plain .out_PortC_H, .plain .sbc_HL_HL, .word .ld_AtNN_HL_ed,
   .unknown, .unknown, .unknown, .plain .rrd,
   .plain .in_L_PortC, .plain .out_PortC_L, .plain .adc_HL_HL, .word .ld_HL_AtNN_ed,
   .unknown, .unknown, .unknown, .plain .rld]

/-- Opcodes 0x70 to 0x7F of the ED table (R174). -/
def edRow7 : List OpcodeEntry :=
  [.unknown, .unknown, .plain .sbc_HL_SP, .word .ld_AtNN_SP,
   .unknown, .unknown, .unknown, .unknown,
   .plain .in_A_PortC, .plain .out_PortC_A, .plain .adc_HL_SP, .word .ld_SP_AtNN,
   .unknown, .unknown, .unknown, .unknown]

/-- Opcodes 0xA0 to 0xAF of the ED table (R174). -/
def edRowA : List OpcodeEntry :=
  [.plain .ldi, .plain .cpi, .plain .ini, .plain .outi,
   .unknown, .unknown, .unknown, .unknown,
   .plain .ldd, .plain .cpd, .plain .ind, .plain .outd,
   .unknown, .unknown, .unknown, .unknown]

/-- Opcodes 0xB0 to 0xBF of the ED table (R174). -/
def edRowB : List OpcodeEntry :=
  [.plain .ldir, .plain .cpir, .plain .inir, .plain .otir,
   .unknown, .unknown, .unknown, .unknown,
   .plain .lddr, .plain .cpdr, .plain .indr, .plain .otdr,
   .unknown, .unknown, .unknown, .unknown]

/-- The ED table (R174). -/
def edTable : List (List OpcodeEntry) :=
  [[], [], [], [], edRow4, edRow5, edRow6, edRow7,
   [], [], edRowA, edRowB, [], [], [], []]

/-- Opcodes 0x00 to 0x0F of the DD table (R175), index register IX. -/
def ddRow0 : List OpcodeEntry :=
  [.unknown, .unknown, .unknown, .unknown,
   .unknown, .unknown, .unknown, .unknown,
   .unknown, .plain .add_IX_BC, .unknown, .unknown,
   .unknown, .unknown, .unknown, .unknown]

/-- Opcodes 0x10 to 0x1F of the DD table (R175), index register IX. -/
def ddRow1 : List OpcodeEntry :=
  [.unknown, .unknown, .unknown, .unknown,
   .unknown, .unknown, .unknown, .unknown,
   .unknown, .plain .add_IX_DE, .unknown, .unknown,
   .unknown, .unknown, .unknown, .unknown]

/-- Opcodes 0x20 to 0x2F of the DD table (R175), index register IX. -/
def ddRow2 : List OpcodeEntry :=
  [.unknown, .word .ld_IX_nn, .word .ld_AtNN_IX, .plain .inc_IX,
   .unknown, .unknown, .unknown, .unknown,
   .unknown, .plain .add_IX_IX, .word .ld_IX_AtNN, .plain .dec_IX,
   .unknown, .unknown, .unknown, .unknown]

/-- Opcodes 0x30 to 0x3F of the DD table (R175), index register IX. -/
def ddRow3 : List OpcodeEntry :=
  [.unknown, .unknown, .unknown, .unknown,
   .byte .inc_AtIXd, .byte .dec_AtIXd, .dispImm .ld_AtIXd_n, .unknown,
   .unknown, .plain .add_IX_SP, .unknown, .unknown,
   .unknown, .unknown, .unknown, .unknown]

/-- Opcodes 0x40 to 0x4F of the DD table (R175), index register IX. -/
def ddRow4 : List OpcodeEntry :=
  [.unknown, .unknown, .unknown, .unknown,
   .unknown, .unknown, .byte .ld_B_AtIXd, .unknown,
   .unknown, .unknown, .unknown, .unknown,
   .unknown, .unknown, .byte .ld_C_AtIXd, .unknown]

/-- Opcodes 0x50 to 0x5F of the DD table (R175), index register IX. -/
def ddRow5 : List OpcodeEntry :=
  [.unknown, .unknown, .unknown, .unknown,
   .unknown, .unknown, .byte .ld_D_AtIXd, .unknown,
   .unknown, .unknown, .unknown, .unknown,
   .unknown, .unknown, .byte .ld_E_AtIXd, .unknown]

/-- Opcodes 0x60 to 0x6F of the DD table (R175), index register IX. -/
def ddRow6 : List OpcodeEntry :=
  [.unknown, .unknown, .unknown, .unknown,
   .unknown, .unknown, .byte .ld_H_AtIXd, .unknown,
   .unknown, .unknown, .unknown, .unknown,
   .unknown, .unknown, .byte .ld_L_AtIXd, .unknown]

/-- Opcodes 0x70 to 0x7F of the DD table (R175), index register IX. -/
def ddRow7 : List OpcodeEntry :=
  [.byte .ld_AtIXd_B, .byte .ld_AtIXd_C, .byte .ld_AtIXd_D, .byte .ld_AtIXd_E,
   .byte .ld_AtIXd_H, .byte .ld_AtIXd_L, .unknown, .byte .ld_AtIXd_A,
   .unknown, .unknown, .unknown, .unknown,
   .unknown, .unknown, .byte .ld_A_AtIXd, .unknown]

/-- Opcodes 0x80 to 0x8F of the DD table (R175), index register IX. -/
def ddRow8 : List OpcodeEntry :=
  [.unknown, .unknown, .unknown, .unknown,
   .unknown, .unknown, .byte .add_A_AtIXd, .unknown,
   .unknown, .unknown, .unknown, .unknown,
   .unknown, .unknown, .byte .adc_A_AtIXd, .unknown]

/-- Opcodes 0x90 to 0x9F of the DD table (R175), index register IX. -/
def ddRow9 : List OpcodeEntry :=
  [.unknown, .unknown, .unknown, .unknown,
   .unknown, .unknown, .byte .sub_AtIXd, .unknown,
   .unknown, .unknown, .unknown, .unknown,
   .unknown, .unknown, .byte .sbc_A_AtIXd, .unknown]

/-- Opcodes 0xA0 to 0xAF of the DD table (R175), index register IX. -/
def ddRowA : List OpcodeEntry :=
  [.unknown, .unknown, .unknown, .unknown,
   .unknown, .unknown, .byte .and_AtIXd, .unknown,
   .unknown, .unknown, .unknown, .unknown,
   .unknown, .unknown, .byte .xor_AtIXd, .unknown]

/-- Opcodes 0xB0 to 0xBF of the DD table (R175), index register IX. -/
def ddRowB : List OpcodeEntry :=
  [.unknown, .unknown, .unknown, .unknown,
   .unknown, .unknown, .byte .or_AtIXd, .unknown,
   .unknown, .unknown, .unknown, .unknown,
   .unknown, .unknown, .byte .cp_AtIXd, .unknown]

/-- Opcodes 0xE0 to 0xEF of the DD table (R175), index register IX. -/
def ddRowE : List OpcodeEntry :=
  [.unknown, .plain .pop_IX, .unknown, .plain .ex_AtSP_IX,
   .unknown, .plain .push_IX, .unknown, .unknown,
   .unknown, .plain .jp_AtIX, .unknown, .unknown,
   .unknown, .unknown, .unknown, .unknown]

/-- Opcodes 0xF0 to 0xFF of the DD table (R175), index register IX. -/
def ddRowF : List OpcodeEntry :=
  [.unknown, .unknown, .unknown, .unknown,
   .unknown, .unknown, .unknown, .unknown,
   .unknown, .plain .ld_SP_IX, .unknown, .unknown,
   .unknown, .unknown, .unknown, .unknown]

/-- The DD table (R175), index register IX. -/
def ddTable : List (List OpcodeEntry) :=
  [ddRow0, ddRow1, ddRow2, ddRow3, ddRow4, ddRow5, ddRow6, ddRow7,
   ddRow8, ddRow9, ddRowA, ddRowB, [], [], ddRowE, ddRowF]

/-- Opcodes 0x00 to 0x0F of the FD table (R175), index register IY. -/
def fdRow0 : List OpcodeEntry :=
  [.unknown, .unknown, .unknown, .unknown,
   .unknown, .unknown, .unknown, .unknown,
   .unknown, .plain .add_IY_BC, .unknown, .unknown,
   .unknown, .unknown, .unknown, .unknown]

/-- Opcodes 0x10 to 0x1F of the FD table (R175), index register IY. -/
def fdRow1 : List OpcodeEntry :=
  [.unknown, .unknown, .unknown, .unknown,
   .unknown, .unknown, .unknown, .unknown,
   .unknown, .plain .add_IY_DE, .unknown, .unknown,
   .unknown, .unknown, .unknown, .unknown]

/-- Opcodes 0x20 to 0x2F of the FD table (R175), index register IY. -/
def fdRow2 : List OpcodeEntry :=
  [.unknown, .word .ld_IY_nn, .word .ld_AtNN_IY, .plain .inc_IY,
   .unknown, .unknown, .unknown, .unknown,
   .unknown, .plain .add_IY_IY, .word .ld_IY_AtNN, .plain .dec_IY,
   .unknown, .unknown, .unknown, .unknown]

/-- Opcodes 0x30 to 0x3F of the FD table (R175), index register IY. -/
def fdRow3 : List OpcodeEntry :=
  [.unknown, .unknown, .unknown, .unknown,
   .byte .inc_AtIYd, .byte .dec_AtIYd, .dispImm .ld_AtIYd_n, .unknown,
   .unknown, .plain .add_IY_SP, .unknown, .unknown,
   .unknown, .unknown, .unknown, .unknown]

/-- Opcodes 0x40 to 0x4F of the FD table (R175), index register IY. -/
def fdRow4 : List OpcodeEntry :=
  [.unknown, .unknown, .unknown, .unknown,
   .unknown, .unknown, .byte .ld_B_AtIYd, .unknown,
   .unknown, .unknown, .unknown, .unknown,
   .unknown, .unknown, .byte .ld_C_AtIYd, .unknown]

/-- Opcodes 0x50 to 0x5F of the FD table (R175), index register IY. -/
def fdRow5 : List OpcodeEntry :=
  [.unknown, .unknown, .unknown, .unknown,
   .unknown, .unknown, .byte .ld_D_AtIYd, .unknown,
   .unknown, .unknown, .unknown, .unknown,
   .unknown, .unknown, .byte .ld_E_AtIYd, .unknown]

/-- Opcodes 0x60 to 0x6F of the FD table (R175), index register IY. -/
def fdRow6 : List OpcodeEntry :=
  [.unknown, .unknown, .unknown, .unknown,
   .unknown, .unknown, .byte .ld_H_AtIYd, .unknown,
   .unknown, .unknown, .unknown, .unknown,
   .unknown, .unknown, .byte .ld_L_AtIYd, .unknown]

/-- Opcodes 0x70 to 0x7F of the FD table (R175), index register IY. -/
def fdRow7 : List OpcodeEntry :=
  [.byte .ld_AtIYd_B, .byte .ld_AtIYd_C, .byte .ld_AtIYd_D, .byte .ld_AtIYd_E,
   .byte .ld_AtIYd_H, .byte .ld_AtIYd_L, .unknown, .byte .ld_AtIYd_A,
   .unknown, .unknown, .unknown, .unknown,
   .unknown, .unknown, .byte .ld_A_AtIYd, .unknown]

/-- Opcodes 0x80 to 0x8F of the FD table (R175), index register IY. -/
def fdRow8 : List OpcodeEntry :=
  [.unknown, .unknown, .unknown, .unknown,
   .unknown, .unknown, .byte .add_A_AtIYd, .unknown,
   .unknown, .unknown, .unknown, .unknown,
   .unknown, .unknown, .byte .adc_A_AtIYd, .unknown]

/-- Opcodes 0x90 to 0x9F of the FD table (R175), index register IY. -/
def fdRow9 : List OpcodeEntry :=
  [.unknown, .unknown, .unknown, .unknown,
   .unknown, .unknown, .byte .sub_AtIYd, .unknown,
   .unknown, .unknown, .unknown, .unknown,
   .unknown, .unknown, .byte .sbc_A_AtIYd, .unknown]

/-- Opcodes 0xA0 to 0xAF of the FD table (R175), index register IY. -/
def fdRowA : List OpcodeEntry :=
  [.unknown, .unknown, .unknown, .unknown,
   .unknown, .unknown, .byte .and_AtIYd, .unknown,
   .unknown, .unknown, .unknown, .unknown,
   .unknown, .unknown, .byte .xor_AtIYd, .unknown]

/-- Opcodes 0xB0 to 0xBF of the FD table (R175), index register IY. -/
def fdRowB : List OpcodeEntry :=
  [.unknown, .unknown, .unknown, .unknown,
   .unknown, .unknown, .byte .or_AtIYd, .unknown,
   .unknown, .unknown, .unknown, .unknown,
   .unknown, .unknown, .byte .cp_AtIYd, .unknown]

/-- Opcodes 0xE0 to 0xEF of the FD table (R175), index register IY. -/
def fdRowE : List OpcodeEntry :=
  [.unknown, .plain .pop_IY, .unknown, .plain .ex_AtSP_IY,
   .unknown, .plain .push_IY, .unknown, .unknown,
   .unknown, .plain .jp_AtIY, .unknown, .unknown,
   .unknown, .unknown, .unknown, .unknown]

/-- Opcodes 0xF0 to 0xFF of the FD table (R175), index register IY. -/
def fdRowF : List OpcodeEntry :=
  [.unknown, .unknown, .unknown, .unknown,
   .unknown, .unknown, .unknown, .unknown,
   .unknown, .plain .ld_SP_IY, .unknown, .unknown,
   .unknown, .unknown, .unknown, .unknown]

/-- The FD table (R175), index register IY. -/
def fdTable : List (List OpcodeEntry) :=
  [fdRow0, fdRow1, fdRow2, fdRow3, fdRow4, fdRow5, fdRow6, fdRow7,
   fdRow8, fdRow9, fdRowA, fdRowB, [], [], fdRowE, fdRowF]

/-- Opcodes 0x00 to 0x0F of the DD CB table (R176), operand (IX+d). -/
def ddcbRow0 : List OpcodeEntry :=
  [.unknown, .unknown, .unknown, .unknown,
   .unknown, .unknown, .byte .rlc_AtIXd, .unknown,
   .unknown, .unknown, .unknown, .unknown,
   .unknown, .unknown, .byte .rrc_AtIXd, .unknown]

/-- Opcodes 0x10 to 0x1F of the DD CB table (R176), operand (IX+d). -/
def ddcbRow1 : List OpcodeEntry :=
  [.unknown, .unknown, .unknown, .unknown,
   .unknown, .unknown, .byte .rl_AtIXd, .unknown,
   .unknown, .unknown, .unknown, .unknown,
   .unknown, .unknown, .byte .rr_AtIXd, .unknown]

/-- Opcodes 0x20 to 0x2F of the DD CB table (R176), operand (IX+d). -/
def ddcbRow2 : List OpcodeEntry :=
  [.unknown, .unknown, .unknown, .unknown,
   .unknown, .unknown, .byte .sla_AtIXd, .unknown,
   .unknown, .unknown, .unknown, .unknown,
   .unknown, .unknown, .byte .sra_AtIXd, .unknown]

/-- Opcodes 0x30 to 0x3F of the DD CB table (R176), operand (IX+d). -/
def ddcbRow3 : List OpcodeEntry :=
  [.unknown, .unknown, .unknown, .unknown,
   .unknown, .unknown, .byte .sll_AtIXd, .unknown,
   .unknown, .unknown, .unknown, .unknown,
   .unknown, .unknown, .byte .srl_AtIXd, .unknown]

/-- Opcodes 0x40 to 0x4F of the DD CB table (R176), operand (IX+d). -/
def ddcbRow4 : List OpcodeEntry :=
  [.byte (.bit_0_AtIXd · 0), .byte (.bit_0_AtIXd · 1), .byte (.bit_0_AtIXd · 2), .byte (.bit_0_AtIXd · 3),
   .byte (.bit_0_AtIXd · 4), .byte (.bit_0_AtIXd · 5), .byte (.bit_0_AtIXd · 6), .byte (.bit_0_AtIXd · 7),
   .byte (.bit_1_AtIXd · 0), .byte (.bit_1_AtIXd · 1), .byte (.bit_1_AtIXd · 2), .byte (.bit_1_AtIXd · 3),
   .byte (.bit_1_AtIXd · 4), .byte (.bit_1_AtIXd · 5), .byte (.bit_1_AtIXd · 6), .byte (.bit_1_AtIXd · 7)]

/-- Opcodes 0x50 to 0x5F of the DD CB table (R176), operand (IX+d). -/
def ddcbRow5 : List OpcodeEntry :=
  [.byte (.bit_2_AtIXd · 0), .byte (.bit_2_AtIXd · 1), .byte (.bit_2_AtIXd · 2), .byte (.bit_2_AtIXd · 3),
   .byte (.bit_2_AtIXd · 4), .byte (.bit_2_AtIXd · 5), .byte (.bit_2_AtIXd · 6), .byte (.bit_2_AtIXd · 7),
   .byte (.bit_3_AtIXd · 0), .byte (.bit_3_AtIXd · 1), .byte (.bit_3_AtIXd · 2), .byte (.bit_3_AtIXd · 3),
   .byte (.bit_3_AtIXd · 4), .byte (.bit_3_AtIXd · 5), .byte (.bit_3_AtIXd · 6), .byte (.bit_3_AtIXd · 7)]

/-- Opcodes 0x60 to 0x6F of the DD CB table (R176), operand (IX+d). -/
def ddcbRow6 : List OpcodeEntry :=
  [.byte (.bit_4_AtIXd · 0), .byte (.bit_4_AtIXd · 1), .byte (.bit_4_AtIXd · 2), .byte (.bit_4_AtIXd · 3),
   .byte (.bit_4_AtIXd · 4), .byte (.bit_4_AtIXd · 5), .byte (.bit_4_AtIXd · 6), .byte (.bit_4_AtIXd · 7),
   .byte (.bit_5_AtIXd · 0), .byte (.bit_5_AtIXd · 1), .byte (.bit_5_AtIXd · 2), .byte (.bit_5_AtIXd · 3),
   .byte (.bit_5_AtIXd · 4), .byte (.bit_5_AtIXd · 5), .byte (.bit_5_AtIXd · 6), .byte (.bit_5_AtIXd · 7)]

/-- Opcodes 0x70 to 0x7F of the DD CB table (R176), operand (IX+d). -/
def ddcbRow7 : List OpcodeEntry :=
  [.byte (.bit_6_AtIXd · 0), .byte (.bit_6_AtIXd · 1), .byte (.bit_6_AtIXd · 2), .byte (.bit_6_AtIXd · 3),
   .byte (.bit_6_AtIXd · 4), .byte (.bit_6_AtIXd · 5), .byte (.bit_6_AtIXd · 6), .byte (.bit_6_AtIXd · 7),
   .byte (.bit_7_AtIXd · 0), .byte (.bit_7_AtIXd · 1), .byte (.bit_7_AtIXd · 2), .byte (.bit_7_AtIXd · 3),
   .byte (.bit_7_AtIXd · 4), .byte (.bit_7_AtIXd · 5), .byte (.bit_7_AtIXd · 6), .byte (.bit_7_AtIXd · 7)]

/-- Opcodes 0x80 to 0x8F of the DD CB table (R176), operand (IX+d). -/
def ddcbRow8 : List OpcodeEntry :=
  [.unknown, .unknown, .unknown, .unknown,
   .unknown, .unknown, .byte .res_0_AtIXd, .unknown,
   .unknown, .unknown, .unknown, .unknown,
   .unknown, .unknown, .byte .res_1_AtIXd, .unknown]

/-- Opcodes 0x90 to 0x9F of the DD CB table (R176), operand (IX+d). -/
def ddcbRow9 : List OpcodeEntry :=
  [.unknown, .unknown, .unknown, .unknown,
   .unknown, .unknown, .byte .res_2_AtIXd, .unknown,
   .unknown, .unknown, .unknown, .unknown,
   .unknown, .unknown, .byte .res_3_AtIXd, .unknown]

/-- Opcodes 0xA0 to 0xAF of the DD CB table (R176), operand (IX+d). -/
def ddcbRowA : List OpcodeEntry :=
  [.unknown, .unknown, .unknown, .unknown,
   .unknown, .unknown, .byte .res_4_AtIXd, .unknown,
   .unknown, .unknown, .unknown, .unknown,
   .unknown, .unknown, .byte .res_5_AtIXd, .unknown]

/-- Opcodes 0xB0 to 0xBF of the DD CB table (R176), operand (IX+d). -/
def ddcbRowB : List OpcodeEntry :=
  [.unknown, .unknown, .unknown, .unknown,
   .unknown, .unknown, .byte .res_6_AtIXd, .unknown,
   .unknown, .unknown, .unknown, .unknown,
   .unknown, .unknown, .byte .res_7_AtIXd, .unknown]

/-- Opcodes 0xC0 to 0xCF of the DD CB table (R176), operand (IX+d). -/
def ddcbRowC : List OpcodeEntry :=
  [.unknown, .unknown, .unknown, .unknown,
   .unknown, .unknown, .byte .set_0_AtIXd, .unknown,
   .unknown, .unknown, .unknown, .unknown,
   .unknown, .unknown, .byte .set_1_AtIXd, .unknown]

/-- Opcodes 0xD0 to 0xDF of the DD CB table (R176), operand (IX+d). -/
def ddcbRowD : List OpcodeEntry :=
  [.unknown, .unknown, .unknown, .unknown,
   .unknown, .unknown, .byte .set_2_AtIXd, .unknown,
   .unknown, .unknown, .unknown, .unknown,
   .unknown, .unknown, .byte .set_3_AtIXd, .unknown]

/-- Opcodes 0xE0 to 0xEF of the DD CB table (R176), operand (IX+d). -/
def ddcbRowE : List OpcodeEntry :=
  [.unknown, .unknown, .unknown, .unknown,
   .unknown, .unknown, .byte .set_4_AtIXd, .unknown,
   .unknown, .unknown, .unknown, .unknown,
   .unknown, .unknown, .byte .set_5_AtIXd, .unknown]

/-- Opcodes 0xF0 to 0xFF of the DD CB table (R176), operand (IX+d). -/
def ddcbRowF : List OpcodeEntry :=
  [.unknown, .unknown, .unknown, .unknown,
   .unknown, .unknown, .byte .set_6_AtIXd, .unknown,
   .unknown, .unknown, .unknown, .unknown,
   .unknown, .unknown, .byte .set_7_AtIXd, .unknown]

/-- The DD CB table (R176), operand (IX+d). -/
def ddcbTable : List (List OpcodeEntry) :=
  [ddcbRow0, ddcbRow1, ddcbRow2, ddcbRow3, ddcbRow4, ddcbRow5, ddcbRow6, ddcbRow7,
   ddcbRow8, ddcbRow9, ddcbRowA, ddcbRowB, ddcbRowC, ddcbRowD, ddcbRowE, ddcbRowF]

/-- Opcodes 0x00 to 0x0F of the FD CB table (R176), operand (IY+d). -/
def fdcbRow0 : List OpcodeEntry :=
  [.unknown, .unknown, .unknown, .unknown,
   .unknown, .unknown, .byte .rlc_AtIYd, .unknown,
   .unknown, .unknown, .unknown, .unknown,
   .unknown, .unknown, .byte .rrc_AtIYd, .unknown]

/-- Opcodes 0x10 to 0x1F of the FD CB table (R176), operand (IY+d). -/
def fdcbRow1 : List OpcodeEntry :=
  [.unknown, .unknown, .unknown, .unknown,
   .unknown, .unknown, .byte .rl_AtIYd, .unknown,
   .unknown, .unknown, .unknown, .unknown,
   .unknown, .unknown, .byte .rr_AtIYd, .unknown]

/-- Opcodes 0x20 to 0x2F of the FD CB table (R176), operand (IY+d). -/
def fdcbRow2 : List OpcodeEntry :=
  [.unknown, .unknown, .unknown, .unknown,
   .unknown, .unknown, .byte .sla_AtIYd, .unknown,
   .unknown, .unknown, .unknown, .unknown,
   .unknown, .unknown, .byte .sra_AtIYd, .unknown]

/-- Opcodes 0x30 to 0x3F of the FD CB table (R176), operand (IY+d). -/
def fdcbRow3 : List OpcodeEntry :=
  [.unknown, .unknown, .unknown, .unknown,
   .unknown, .unknown, .byte .sll_AtIYd, .unknown,
   .unknown, .unknown, .unknown, .unknown,
   .unknown, .unknown, .byte .srl_AtIYd, .unknown]

/-- Opcodes 0x40 to 0x4F of the FD CB table (R176), operand (IY+d). -/
def fdcbRow4 : List OpcodeEntry :=
  [.byte (.bit_0_AtIYd · 0), .byte (.bit_0_AtIYd · 1), .byte (.bit_0_AtIYd · 2), .byte (.bit_0_AtIYd · 3),
   .byte (.bit_0_AtIYd · 4), .byte (.bit_0_AtIYd · 5), .byte (.bit_0_AtIYd · 6), .byte (.bit_0_AtIYd · 7),
   .byte (.bit_1_AtIYd · 0), .byte (.bit_1_AtIYd · 1), .byte (.bit_1_AtIYd · 2), .byte (.bit_1_AtIYd · 3),
   .byte (.bit_1_AtIYd · 4), .byte (.bit_1_AtIYd · 5), .byte (.bit_1_AtIYd · 6), .byte (.bit_1_AtIYd · 7)]

/-- Opcodes 0x50 to 0x5F of the FD CB table (R176), operand (IY+d). -/
def fdcbRow5 : List OpcodeEntry :=
  [.byte (.bit_2_AtIYd · 0), .byte (.bit_2_AtIYd · 1), .byte (.bit_2_AtIYd · 2), .byte (.bit_2_AtIYd · 3),
   .byte (.bit_2_AtIYd · 4), .byte (.bit_2_AtIYd · 5), .byte (.bit_2_AtIYd · 6), .byte (.bit_2_AtIYd · 7),
   .byte (.bit_3_AtIYd · 0), .byte (.bit_3_AtIYd · 1), .byte (.bit_3_AtIYd · 2), .byte (.bit_3_AtIYd · 3),
   .byte (.bit_3_AtIYd · 4), .byte (.bit_3_AtIYd · 5), .byte (.bit_3_AtIYd · 6), .byte (.bit_3_AtIYd · 7)]

/-- Opcodes 0x60 to 0x6F of the FD CB table (R176), operand (IY+d). -/
def fdcbRow6 : List OpcodeEntry :=
  [.byte (.bit_4_AtIYd · 0), .byte (.bit_4_AtIYd · 1), .byte (.bit_4_AtIYd · 2), .byte (.bit_4_AtIYd · 3),
   .byte (.bit_4_AtIYd · 4), .byte (.bit_4_AtIYd · 5), .byte (.bit_4_AtIYd · 6), .byte (.bit_4_AtIYd · 7),
   .byte (.bit_5_AtIYd · 0), .byte (.bit_5_AtIYd · 1), .byte (.bit_5_AtIYd · 2), .byte (.bit_5_AtIYd · 3),
   .byte (.bit_5_AtIYd · 4), .byte (.bit_5_AtIYd · 5), .byte (.bit_5_AtIYd · 6), .byte (.bit_5_AtIYd · 7)]

/-- Opcodes 0x70 to 0x7F of the FD CB table (R176), operand (IY+d). -/
def fdcbRow7 : List OpcodeEntry :=
  [.byte (.bit_6_AtIYd · 0), .byte (.bit_6_AtIYd · 1), .byte (.bit_6_AtIYd · 2), .byte (.bit_6_AtIYd · 3),
   .byte (.bit_6_AtIYd · 4), .byte (.bit_6_AtIYd · 5), .byte (.bit_6_AtIYd · 6), .byte (.bit_6_AtIYd · 7),
   .byte (.bit_7_AtIYd · 0), .byte (.bit_7_AtIYd · 1), .byte (.bit_7_AtIYd · 2), .byte (.bit_7_AtIYd · 3),
   .byte (.bit_7_AtIYd · 4), .byte (.bit_7_AtIYd · 5), .byte (.bit_7_AtIYd · 6), .byte (.bit_7_AtIYd · 7)]

/-- Opcodes 0x80 to 0x8F of the FD CB table (R176), operand (IY+d). -/
def fdcbRow8 : List OpcodeEntry :=
  [.unknown, .unknown, .unknown, .unknown,
   .unknown, .unknown, .byte .res_0_AtIYd, .unknown,
   .unknown, .unknown, .unknown, .unknown,
   .unknown, .unknown, .byte .res_1_AtIYd, .unknown]

/-- Opcodes 0x90 to 0x9F of the FD CB table (R176), operand (IY+d). -/
def fdcbRow9 : List OpcodeEntry :=
  [.unknown, .unknown, .unknown, .unknown,
   .unknown, .unknown, .byte .res_2_AtIYd, .unknown,
   .unknown, .unknown, .unknown, .unknown,
   .unknown, .unknown, .byte .res_3_AtIYd, .unknown]

/-- Opcodes 0xA0 to 0xAF of the FD CB table (R176), operand (IY+d). -/
def fdcbRowA : List OpcodeEntry :=
  [.unknown, .unknown, .unknown, .unknown,
   .unknown, .unknown, .byte .res_4_AtIYd, .unknown,
   .unknown, .unknown, .unknown, .unknown,
   .unknown, .unknown, .byte .res_5_AtIYd, .unknown]

/-- Opcodes 0xB0 to 0xBF of the FD CB table (R176), operand (IY+d). -/
def fdcbRowB : List OpcodeEntry :=
  [.unknown, .unknown, .unknown, .unknown,
   .unknown, .unknown, .byte .res_6_AtIYd, .unknown,
   .unknown, .unknown, .unknown, .unknown,
   .unknown, .unknown, .byte .res_7_AtIYd, .unknown]

/-- Opcodes 0xC0 to 0xCF of the FD CB table (R176), operand (IY+d). -/
def fdcbRowC : List OpcodeEntry :=
  [.unknown, .unknown, .unknown, .unknown,
   .unknown, .unknown, .byte .set_0_AtIYd, .unknown,
   .unknown, .unknown, .unknown, .unknown,
   .unknown, .unknown, .byte .set_1_AtIYd, .unknown]

/-- Opcodes 0xD0 to 0xDF of the FD CB table (R176), operand (IY+d). -/
def fdcbRowD : List OpcodeEntry :=
  [.unknown, .unknown, .unknown, .unknown,
   .unknown, .unknown, .byte .set_2_AtIYd, .unknown,
   .unknown, .unknown, .unknown, .unknown,
   .unknown, .unknown, .byte .set_3_AtIYd, .unknown]

/-- Opcodes 0xE0 to 0xEF of the FD CB table (R176), operand (IY+d). -/
def fdcbRowE : List OpcodeEntry :=
  [.unknown, .unknown, .unknown, .unknown,
   .unknown, .unknown, .byte .set_4_AtIYd, .unknown,
   .unknown, .unknown, .unknown, .unknown,
   .unknown, .unknown, .byte .set_5_AtIYd, .unknown]

/-- Opcodes 0xF0 to 0xFF of the FD CB table (R176), operand (IY+d). -/
def fdcbRowF : List OpcodeEntry :=
  [.unknown, .unknown, .unknown, .unknown,
   .unknown, .unknown, .byte .set_6_AtIYd, .unknown,
   .unknown, .unknown, .unknown, .unknown,
   .unknown, .unknown, .byte .set_7_AtIYd, .unknown]

/-- The FD CB table (R176), operand (IY+d). -/
def fdcbTable : List (List OpcodeEntry) :=
  [fdcbRow0, fdcbRow1, fdcbRow2, fdcbRow3, fdcbRow4, fdcbRow5, fdcbRow6, fdcbRow7,
   fdcbRow8, fdcbRow9, fdcbRowA, fdcbRowB, fdcbRowC, fdcbRowD, fdcbRowE, fdcbRowF]

/-- The entry of a table at an opcode byte. -/
def lookupOpcode (t : List (List OpcodeEntry)) (op : Byte) : OpcodeEntry :=
  (t.getD (op.toNat / 16) []).getD (op.toNat % 16) .unknown

/-! ## The decoder -/

/-- What the decoder answers. -/
inductive Decoded where
  /-- An instruction, and the bytes after it. -/
  | instr (i : Instr) (rest : List Byte)
  /-- The bytes match no admitted row: `UnknownOpcode`, with the bytes read so far (R170, R503). -/
  | unknown (bytes : List Byte)
  /-- The list ends inside an instruction. A fetch of four bytes never does. -/
  | short
  deriving DecidableEq, Repr

/-- Take an entry's operand bytes (R171). `read` holds the opcode bytes read so far. -/
def takeOperands (read : List Byte) : OpcodeEntry → List Byte → Decoded
  | .unknown, _ => .unknown read
  | .plain i, rest => .instr i rest
  | .byte f, n :: rest => .instr (f n) rest
  | .word f, l :: h :: rest => .instr (f (join h l)) rest
  | .dispImm f, d :: n :: rest => .instr (f d n) rest
  | _, _ => .short

/-- The DD/FD CB form, "displacement-then-op" (R169, R176): byte 3 is d, byte 4 the operation. -/
def decodeIdxCb (p : Byte) (t : List (List OpcodeEntry)) : List Byte → Decoded
  | d :: op :: rest => takeOperands [p, 0xCB, d, op] (lookupOpcode t op) (d :: rest)
  | _ => .short

/-- The bytes after a DD or FD byte `p` (R169, R175). -/
def decodeIdx (p : Byte) (t tcb : List (List OpcodeEntry)) : List Byte → Decoded
  | [] => .short
  | op :: rest => if op = 0xCB then decodeIdxCb p tcb rest else takeOperands [p, op] (lookupOpcode t op) rest

/-- The bytes after a CB or ED byte `p` (R169, R173, R174). -/
def decodeTwoByte (p : Byte) (t : List (List OpcodeEntry)) : List Byte → Decoded
  | [] => .short
  | op :: rest => takeOperands [p, op] (lookupOpcode t op) rest

/-- Decode the instruction at the head of a list of bytes (R169, R170), whatever its row's class. -/
def decode : List Byte → Decoded
  | [] => .short
  | op :: rest =>
    if op = 0xCB then decodeTwoByte op cbTable rest
    else if op = 0xED then decodeTwoByte op edTable rest
    else if op = 0xDD then decodeIdx op ddTable ddcbTable rest
    else if op = 0xFD then decodeIdx op fdTable fdcbTable rest
    else takeOperands [op] (lookupOpcode mainTable op) rest

/-- Decode with the rows that the parameters admit (R160). Every row of class `unlisted` has two opcode bytes, and the
second makes the sequence unmatched when the row is not admitted. -/
def decodeAdmitted (p : Params) (bytes : List Byte) : Decoded :=
  match decode bytes with
  | .instr i rest => if i.admitted p then .instr i rest else .unknown (bytes.take 2)
  | r => r

/-! ## The encoder -/

/-- The code of r (R163). -/
def R8.code : R8 → BitVec 3
  | .b => 0b000 | .c => 0b001 | .d => 0b010 | .e => 0b011 | .h => 0b100 | .l => 0b101 | .a => 0b111

/-- The code of rp (R164). -/
def Pair.code : Pair → BitVec 2
  | .bc => 0b00 | .de => 0b01 | .hl => 0b10 | .sp => 0b11

/-- The code of rp2 (R165). -/
def Pair2.code : Pair2 → BitVec 2
  | .bc => 0b00 | .de => 0b01 | .hl => 0b10 | .af => 0b11

/-- The code of rp in ADD IX,ss (R304). -/
def IdxPair.code : IdxPair → BitVec 2
  | .bc => 0b00 | .de => 0b01 | .self => 0b10 | .sp => 0b11

/-- The code of cc (R166). -/
def Cond.code : Cond → BitVec 3
  | .nz => 0b000 | .z => 0b001 | .nc => 0b010 | .c => 0b011
  | .po => 0b100 | .pe => 0b101 | .p => 0b110 | .m => 0b111

/-- The y field of JR cc: cc + 4 (R166). -/
def JrCond.code : JrCond → BitVec 3
  | .nz => 0b100 | .z => 0b101 | .nc => 0b110 | .c => 0b111

/-- The code of alu (R167). -/
def AluOp.code : AluOp → BitVec 3
  | .add => 0b000 | .adc => 0b001 | .sub => 0b010 | .sbc => 0b011
  | .and => 0b100 | .xor => 0b101 | .or => 0b110 | .cp => 0b111

/-- The code of rot (R168). -/
def RotOp.code : RotOp → BitVec 3
  | .rlc => 0b000 | .rrc => 0b001 | .rl => 0b010 | .rr => 0b011
  | .sla => 0b100 | .sra => 0b101 | .sll => 0b110 | .srl => 0b111

/-- The lead byte of an index register (R169). -/
def Idx.lead : Idx → Byte
  | .ix => 0xDD | .iy => 0xFD

/-- The y field of an interrupt mode in `ED 01 yyy 110` (R174: 0x46, 0x56, 0x5E). -/
def IntMode.code : IntMode → BitVec 3
  | .im0 => 0b000 | .im1 => 0b010 | .im2 => 0b011

/-- A block instruction `ED 101 r g 0zz`: r set when it repeats, g set when the pointers step down (R174). -/
def opBlock (rep : Bool) (g : Dir) (z : BitVec 3) : Byte :=
  opXYZ 0b10 (0b1#1 ++ BitVec.ofBool rep ++ BitVec.ofBool (g == .dec)) z

/-- The two bytes of a word, low first (R111, R171). -/
def wordBytes (w : Word) : List Byte := [lo w, hi w]

/-- An instruction of the CB table on m (R173, R176): in the indexed form d precedes the operation byte. -/
def encodeCb (x : BitVec 2) (y : BitVec 3) : Loc8 → List Byte
  | .reg r => [0xCB, opXYZ x y r.code]
  | .atHL => [0xCB, opXYZ x y 0b110]
  | .atIdx i d => [i.lead, 0xCB, d, opXYZ x y 0b110]

/-- INC m and DEC m: `00 mmm 10q` with q = 0 or 1 (R274 to R279). -/
def encodeIncDec (z : BitVec 3) : Loc8 → List Byte
  | .reg r => [opXYZ 0b00 r.code z]
  | .atHL => [opXYZ 0b00 0b110 z]
  | .atIdx i d => [i.lead, opXYZ 0b00 0b110 z, d]

/-- The four forms of an ALU instruction (R265). -/
def encodeAlu (y : BitVec 3) : Src8 → List Byte
  | .reg r => [opXYZ 0b10 y r.code]
  | .imm n => [opXYZ 0b11 y 0b110, n]
  | .atHL => [opXYZ 0b10 y 0b110]
  | .atIdx i d => [i.lead, opXYZ 0b10 y 0b110, d]

/-- The bytes of an instruction, from the `Encoding:` line of its rule. -/
def Op.encode : Op → List Byte
  | .ldRegReg r s => [opXYZ 0b01 r.code s.code]
  | .ldRegImm r n => [opXYZ 0b00 r.code 0b110, n]
  | .ldRegHL r => [opXYZ 0b01 r.code 0b110]
  | .ldHLReg r => [opXYZ 0b01 0b110 r.code]
  | .ldHLImm n => [0b00110110, n]
  | .ldRegIdx r x d => [x.lead, opXYZ 0b01 r.code 0b110, d]
  | .ldIdxReg x d r => [x.lead, opXYZ 0b01 0b110 r.code, d]
  | .ldIdxNum x d n => [x.lead, 0b00110110, d, n]
  | .ldABC => [0b00001010]
  | .ldADE => [0b00011010]
  | .ldBCA => [0b00000010]
  | .ldDEA => [0b00010010]
  | .ldAMem nn => 0b00111010 :: wordBytes nn
  | .ldMemA nn => 0b00110010 :: wordBytes nn
  | .ldAI => [0xED, 0b01010111]
  | .ldAR => [0xED, 0b01011111]
  | .ldIA => [0xED, 0b01000111]
  | .ldRA => [0xED, 0b01001111]
  | .ldPairImm p nn => opXPQ 0b00 p.code 0b0001 :: wordBytes nn
  | .ldIdxImm x nn => x.lead :: 0b00100001 :: wordBytes nn
  | .ldHLMem nn => 0b00101010 :: wordBytes nn
  | .ldMemHL nn => 0b00100010 :: wordBytes nn
  | .ldPairMem p nn => 0xED :: opXPQ 0b01 p.code 0b1011 :: wordBytes nn
  | .ldMemPair nn p => 0xED :: opXPQ 0b01 p.code 0b0011 :: wordBytes nn
  | .ldIdxMem x nn => x.lead :: 0b00101010 :: wordBytes nn
  | .ldMemIdx nn x => x.lead :: 0b00100010 :: wordBytes nn
  | .ldSPHL => [0b11111001]
  | .ldSPIdx x => [x.lead, 0b11111001]
  | .push p => [opXPQ 0b11 p.code 0b0101]
  | .pushIdx x => [x.lead, 0b11100101]
  | .pop p => [opXPQ 0b11 p.code 0b0001]
  | .popIdx x => [x.lead, 0b11100001]
  | .exDEHL => [0b11101011]
  | .exAF => [0b00001000]
  | .exx => [0b11011001]
  | .exSPHL => [0b11100011]
  | .exSPIdx x => [x.lead, 0b11100011]
  | .alu o s => encodeAlu o.code s
  | .incLoc m => encodeIncDec 0b100 m
  | .decLoc m => encodeIncDec 0b101 m
  | .addHL p => [opXPQ 0b00 p.code 0b1001]
  | .addIdx x p => [x.lead, opXPQ 0b00 p.code 0b1001]
  | .adcHL p => [0xED, opXPQ 0b01 p.code 0b1010]
  | .sbcHL p => [0xED, opXPQ 0b01 p.code 0b0010]
  | .incPair p => [opXPQ 0b00 p.code 0b0011]
  | .incIdx x => [x.lead, 0b00100011]
  | .decPair p => [opXPQ 0b00 p.code 0b1011]
  | .decIdx x => [x.lead, 0b00101011]
  | .rlca => [0b00000111]
  | .rrca => [0b00001111]
  | .rla => [0b00010111]
  | .rra => [0b00011111]
  | .rot o m => encodeCb 0b00 o.code m
  | .rld => [0xED, 0b01101111]
  | .rrd => [0xED, 0b01100111]
  | .bitTestReg b r => encodeCb 0b01 b (.reg r)
  | .bitTestHL b => encodeCb 0b01 b .atHL
  | .bitTestIdx b x d z => [x.lead, 0xCB, d, opXYZ 0b01 b z]
  | .resBit b m => encodeCb 0b10 b m
  | .setBit b m => encodeCb 0b11 b m
  | .jp nn => 0b11000011 :: wordBytes nn
  | .jpCond k nn => opXYZ 0b11 k.code 0b010 :: wordBytes nn
  | .jpHL => [0b11101001]
  | .jpIdx x => [x.lead, 0b11101001]
  | .jr e => [0b00011000, e]
  | .jrCond k e => [opXYZ 0b00 k.code 0b000, e]
  | .djnz e => [0b00010000, e]
  | .call nn => 0b11001101 :: wordBytes nn
  | .callCond k nn => opXYZ 0b11 k.code 0b100 :: wordBytes nn
  | .ret => [0b11001001]
  | .retCond k => [opXYZ 0b11 k.code 0b000]
  | .reti => [0xED, 0b01001101]
  | .retn => [0xED, 0b01000101]
  | .rst y => [opXYZ 0b11 y 0b111]
  | .inAPort n => [0b11011011, n]
  | .inRegC r => [0xED, opXYZ 0b01 r.code 0b000]
  | .outPortA n => [0b11010011, n]
  | .outCReg r => [0xED, opXYZ 0b01 r.code 0b001]
  | .inBlock g => [0xED, opBlock false g 0b010]
  | .inBlockRep g => [0xED, opBlock true g 0b010]
  | .outBlock g => [0xED, opBlock false g 0b011]
  | .outBlockRep g => [0xED, opBlock true g 0b011]
  | .ldBlock g => [0xED, opBlock false g 0b000]
  | .ldBlockRep g => [0xED, opBlock true g 0b000]
  | .cpBlock g => [0xED, opBlock false g 0b001]
  | .cpBlockRep g => [0xED, opBlock true g 0b001]
  | .nop => [0b00000000]
  | .halt => [0b01110110]
  | .di => [0b11110011]
  | .ei => [0b11111011]
  | .im m => [0xED, opXYZ 0b01 m.code 0b110]
  | .neg => [0xED, 0b01000100]
  | .cpl => [0b00101111]
  | .scf => [0b00110111]
  | .ccf => [0b00111111]
  | .daa => [0b00100111]

/-- The bytes of an instruction (R161). -/
def encode (i : Instr) : List Byte := i.op.encode

/-! ## Lengths and fetch counts, from their own rules -/

/-- The length in bytes of an instruction (R178). -/
def Op.length : Op → Nat
  | .ldRegImm _ _ | .ldHLImm _ | .alu _ (.imm _) | .jr _ | .jrCond _ _ | .djnz _ | .outPortA _ | .inAPort _ => 2
  | .ldPairImm _ _ | .ldMemHL _ | .ldHLMem _ | .ldMemA _ | .ldAMem _ => 3
  | .jp _ | .jpCond _ _ | .call _ | .callCond _ _ => 3
  | .rot _ (.atIdx _ _) | .resBit _ (.atIdx _ _) | .setBit _ (.atIdx _ _) => 4
  | .bitTestIdx _ _ _ _ => 4
  | .rot _ _ | .bitTestReg _ _ | .bitTestHL _ | .resBit _ _ | .setBit _ _ => 2
  | .ldMemPair _ _ | .ldPairMem _ _ => 4
  | .inRegC _ | .outCReg _ | .sbcHL _ | .adcHL _ | .neg | .retn | .reti | .im _ => 2
  | .ldIA | .ldRA | .ldAI | .ldAR | .rrd | .rld => 2
  | .ldBlock _ | .ldBlockRep _ | .cpBlock _ | .cpBlockRep _ => 2
  | .inBlock _ | .inBlockRep _ | .outBlock _ | .outBlockRep _ => 2
  | .addIdx _ _ | .incIdx _ | .decIdx _ | .popIdx _ | .exSPIdx _ | .pushIdx _ | .jpIdx _ | .ldSPIdx _ => 2
  | .incLoc (.atIdx _ _) | .decLoc (.atIdx _ _) | .alu _ (.atIdx _ _) | .ldRegIdx _ _ _ | .ldIdxReg _ _ _ => 3
  | .ldIdxNum _ _ _ | .ldIdxImm _ _ | .ldMemIdx _ _ | .ldIdxMem _ _ => 4
  | _ => 1

/-- The length in bytes of an instruction (R178). -/
def Instr.length (i : Instr) : Nat := i.op.length

/-- The number of opcode-fetch (M1) cycles of an instruction (R41): 2 if its first byte is CB, ED, DD or FD, else 1. -/
def Instr.fetchCount (i : Instr) : Nat :=
  match encode i with
  | b :: _ => if b = 0xCB ∨ b = 0xED ∨ b = 0xDD ∨ b = 0xFD then 2 else 1
  | [] => 0

/-- The number of bytes of an instruction that spec/opcode_table.json fixes: its opcode bytes, d and the immediates
left out (the head of 30_encoding.md). -/
def Instr.opcodeBytes (i : Instr) : Nat :=
  match encode i with
  | p :: q :: _ =>
    if p = 0xCB ∨ p = 0xED then 2
    else if p = 0xDD ∨ p = 0xFD then (if q = 0xCB then 3 else 2)
    else 1
  | _ => 1

/-! ## Words numbered as the opcode table numbers them -/

/-- Byte `k` of a number, counted from its least significant byte. -/
def byteAt (w k : Nat) : Byte := BitVec.ofNat 8 (w / 256 ^ k)

/-- The bytes of a word whose FIRST byte is its least significant one, then zeros, four in all. -/
def bytesLow (nbits w : Nat) : List Byte :=
  (List.range 4).map fun k => if 8 * k < nbits then byteAt w k else 0

/-- The bytes of a word that spells the opcode bytes in order as one number, the first the most significant one (the
head of 30_encoding.md, 98_reader.md), then zeros, four in all. -/
def bytesHigh (nbits w : Nat) : List Byte :=
  (List.range 4).map fun k => if 8 * k < nbits then byteAt w (nbits / 8 - 1 - k) else 0

/-- Put a displacement of 0 between the two opcode bytes that spec/opcode_table.json writes together in the DD/FD CB
form (the head of 30_encoding.md: "the `d` byte between them is skipped"). -/
def withDisplacement : List Byte → List Byte
  | [p, q, r, _] => if (p = 0xDD ∨ p = 0xFD) ∧ q = 0xCB then [p, q, 0, r] else [p, q, r, 0]
  | l => l

/-- Whether the bytes start with an instruction whose opcode bytes are exactly `nbits` bits. -/
def spellsRow (nbits : Nat) (bytes : List Byte) : Bool :=
  match decode bytes with
  | .instr i _ => 8 * i.opcodeBytes == nbits
  | _ => false

/-- The four bytes of the instruction whose table bits are `w` (notes/assumptions/13.md): first byte least significant;
if that spells no row of `nbits` bits, first byte most significant, the reading of the table's `match`. Where neither
spells a row, the first reading, with what stands above `nbits` zero. -/
def tableWordBytes (nbits w : Nat) : List Byte :=
  if spellsRow nbits (withDisplacement (bytesLow nbits w)) then withDisplacement (bytesLow nbits w)
  else if spellsRow nbits (withDisplacement (bytesHigh nbits w)) then withDisplacement (bytesHigh nbits w)
  else bytesLow nbits w

/-- The instruction the decoder reads from the instruction whose table bits are `w`, if it reads one. -/
def decodeTableWord (nbits w : Nat) : Option Instr :=
  match decodeAdmitted Params.standard (tableWordBytes nbits w) with
  | .instr i _ => some i
  | _ => none

end Sys2Proof
end

