-- ==== Sys2Proof/Machine/Fetch.lean ====
section
/-! DEFINITION. Fetch (30_encoding.md R170, 60_exceptions.md R506), the interrupt poll (R500, R510), and placing an
instruction where the next fetch reads it. -/

namespace Sys2Proof.Machine

/-- The four bytes at PC, read through the mapper; the longest instruction has four (R170, R178). Reads have no side
effect (R113), so reading past a shorter instruction changes nothing. -/
def State.fetchBytes (s : State) : List Byte :=
  [s.read s.pc, s.read (s.pc + 1), s.read (s.pc + 2), s.read (s.pc + 3)]

/-- `Decode(PC)` (R170). -/
def State.fetchDecode (s : State) : Decoded := decodeAdmitted s.params s.fetchBytes

/-- A valid configuration has 1 to 64 banks (R606). -/
def Cart.valid (c : Cart) : Bool := decide (1 ≤ c.numBanks) && decide (c.numBanks ≤ 64)

/-- The poll's update: `VdpUpdate(t0)`, then `eiShadow <- false` (R500). -/
def State.polled (s : State) : State :=
  { s with vdp := s.vdp.update s.params s.cycles, eiShadow := false }

/-- Whether the poll accepts an interrupt, or would but for the mode: `VdpIrq() and IFF1 and not shadow` (R510). -/
def State.interrupted (s : State) : Bool := s.polled.vdp.irq && s.iff1 && !s.eiShadow

/-- A halted step: R counts one fetch and the clock 4 T-states (R508). -/
def State.haltedStep (s : State) : State := ({ s with r := countR s.r 1 }).tick 4

/-! ## Placing an instruction (notes/assumptions/14.md) -/

/-- A ROM byte placed in a bank that the cartridge has. -/
def State.placeRom (s : State) (bank off : Nat) (v : Byte) : State :=
  { s with cart := { s.cart with rom := Mem.write s.cart.rom (bank * 16384 + off) v } }

/-- The state with a byte placed where a CPU address reads. A ROM slot whose selector names no bank of the cartridge is
first set to bank 0. -/
def State.place (s : State) (a : Word) (v : Byte) : State :=
  let n := a.toNat
  if n < 0x0400 then s.placeRom 0 n v
  else if n < 0x4000 then
    if s.mem.n0.toNat < s.cart.numBanks then s.placeRom s.mem.n0.toNat n v
    else ({ s with mem := { s.mem with n0 := 0 } }).placeRom 0 n v
  else if n < 0x8000 then
    if s.mem.n1.toNat < s.cart.numBanks then s.placeRom s.mem.n1.toNat (n - 0x4000) v
    else ({ s with mem := { s.mem with n1 := 0 } }).placeRom 0 (n - 0x4000) v
  else if n < 0xC000 then
    if s.mem.ramEnable then { s with mem := s.mem.writeCart (n - 0x8000) v }
    else if s.mem.n2.toNat < s.cart.numBanks then s.placeRom s.mem.n2.toNat (n - 0x8000) v
    else ({ s with mem := { s.mem with n2 := 0 } }).placeRom 0 (n - 0x8000) v
  else { s with mem := { s.mem with sysRam := Mem.write s.mem.sysRam (n % 0x2000) v } }

/-- The state with bytes placed at an address and the ones after it. -/
def State.placeBytes (s : State) (a : Word) : List Byte → State
  | [] => s
  | v :: l => (s.place a v).placeBytes (a + 1) l

/-- The state whose next step fetches the given bytes at PC: not stopped, not halted, a cartridge that may start, and no
interrupt taken at that step (the step counts as the one after EI). -/
def State.placeInstruction (s : State) (bytes : List Byte) : State :=
  let t := { s with
    fault := none
    halted := false
    cart := { s.cart with numBanks := if s.cart.valid then s.cart.numBanks else 1 }
    eiShadow := s.eiShadow || s.interrupted }
  t.placeBytes t.pc bytes

end Sys2Proof.Machine
end

