-- ==== Sys2Proof/Machine/Cycle.lean ====
section
/-! DEFINITION. The step of the block (60_exceptions.md R500): poll, then fetch and execute, then the clock. -/

namespace Sys2Proof.Machine

/-- The part of a step after the poll (R500): a halted step (R508), or fetch, decode and execute (R506, R507). Bytes
that spell no admitted instruction raise UnknownOpcode before the instruction changes anything (R502, R503). -/
def State.afterPoll (s : State) : Result :=
  if s.halted then .next s.haltedStep
  else
    match s.fetchDecode with
    | .instr i _ => exec i s
    | .unknown bytes => .next (s.raise (.unknownOpcode s.pc bytes s.cycles))
    | .short => .next (s.raise (.unknownOpcode s.pc s.fetchBytes s.cycles))

/-- `Step()` (R500). A stopped machine stays as it is (R502). A machine whose cartridge must not start takes no step
(R606). -/
def State.cycle (s : State) : Result :=
  if s.fault.isSome then .next s
  else if !s.cart.valid then .refused (.cartridgeRefused s.cart.numBanks)
  else if s.interrupted then
    if s.im = .im1 then s.polled.acceptIM1.afterPoll
    else .next (s.polled.raise (.unsupportedInterruptMode s.pc [] s.cycles))
  else s.polled.afterPoll

end Sys2Proof.Machine
end

