-- ==== Sys2Proof/Machine/Step.lean ====
section
/-! DEFINITION. The step of the machine and the placing of an instruction that the host asks with. -/

namespace Sys2Proof.Machine

/-- One step (60_exceptions.md R500). -/
def step (s : State) : Host.Outcome State Fault Refusal := s.cycle

/-- The state whose next step fetches and runs the instruction whose table bits are `w` (notes/assumptions/13.md,
14.md). -/
def State.withFetchWord (s : State) (nbits w : Nat) : State := s.placeInstruction (tableWordBytes nbits w)

end Sys2Proof.Machine
end

