-- ==== Sys2Proof/Machine/VdpView.lean ====
section
/-! DEFINITION. The derived caches and the compositor interface of the VDP (60_exceptions.md R528 to R535, 10_state.md
R55, R59): functions of `vram`, `cram` and `vreg` (D31). No instruction reads them. The dirty flags, reference counts and
check-done flags of R534 are left out, as R534 allows. -/

namespace Sys2Proof.Machine

/-- `expand(x) = (x * 0xFF) div 3` of a 2-bit colour field (R528). -/
def expandColour (x : BitVec 2) : Nat := x.toNat * 0xFF / 3

/-- `palette[i]` as (R, G, B) (R528). -/
def Vdp.palette (v : Vdp) (i : Fin 32) : Nat × Nat × Nat :=
  let c := Mem.read v.cram i.val
  (expandColour (c.extractLsb' 0 2), expandColour (c.extractLsb' 2 2), expandColour (c.extractLsb' 4 2))

/-- `pixel(p, y, x)`, 0 to 15 (R530). -/
def Vdp.pixel (v : Vdp) (p : Fin 512) (y x : Fin 8) : Nat :=
  ((List.range 4).map fun k =>
    ((Mem.read v.vram (32 * p.val + 4 * y.val + k)).getLsbD (7 - x.val)).toNat * 2 ^ k).sum

/-- The decoded pattern buffer at index `64·p + 8·y + x` (R530). -/
def Vdp.decodedPixel (v : Vdp) (n : Fin 32768) : Nat :=
  v.pixel ⟨n.val / 64, by have := n.isLt; omega⟩ ⟨n.val / 8 % 8, by omega⟩ ⟨n.val % 8, by omega⟩

/-- The inverse transform of a pattern row: plane byte `4·y + k` from the eight pixels (R530). -/
def planeByte (pix : Fin 8 → Nat) (k : Nat) : Byte :=
  BitVec.ofNat 8 ((List.finRange 8).map fun x => (pix x / 2 ^ k % 2) * 2 ^ (7 - x.val)).sum

/-- `nameBase = (vreg[2] & 0x0E) << 10` (R55). -/
def Vdp.nameBase (v : Vdp) : Nat := (v.reg 2 &&& 0x0E).toNat * 2 ^ 10

/-- `satBase = (vreg[5] & 0x7E) << 7` (R55). -/
def Vdp.satBase (v : Vdp) : Nat := (v.reg 5 &&& 0x7E).toNat * 2 ^ 7

/-- `spritePatBase = (vreg[6] & 0x04) << 11` (R55). -/
def Vdp.spritePatBase (v : Vdp) : Nat := (v.reg 6 &&& 0x04).toNat * 2 ^ 11

/-- `border = vreg[7] & 0x0F`, an index into CRAM entries 16..31 (R55). -/
def Vdp.border (v : Vdp) : Nat := (v.reg 7 &&& 0x0F).toNat

/-- `leftColumnBlank`, vreg[0] bit 5 (R55). -/
def Vdp.leftColumnBlank (v : Vdp) : Bool := (v.reg 0).getLsbD 5

/-- `hscrollLock`, vreg[0] bit 6 (R55). -/
def Vdp.hscrollLock (v : Vdp) : Bool := (v.reg 0).getLsbD 6

/-- `vscrollLock`, vreg[0] bit 7 (R55). -/
def Vdp.vscrollLock (v : Vdp) : Bool := (v.reg 0).getLsbD 7

/-- `displayEnable`, vreg[1] bit 6 (R55). -/
def Vdp.displayEnable (v : Vdp) : Bool := (v.reg 1).getLsbD 6

/-- `spriteSize`, vreg[1] bit 1 (R55). -/
def Vdp.spriteSize (v : Vdp) : Bool := (v.reg 1).getLsbD 1

/-- The attributes of a name-table entry (R531). -/
structure TileAttr where
  pattern : Nat
  priority : Bool
  paletteSelect : Bool
  vflip : Bool
  hflip : Bool
  deriving DecidableEq, Repr

/-- The attributes of name-table entry `i` of 32 columns × 28 rows (R531). -/
def Vdp.tileAttr (v : Vdp) (i : Fin 896) : TileAttr :=
  let low := Mem.read v.vram (v.nameBase + 2 * i.val)
  let high := Mem.read v.vram (v.nameBase + 2 * i.val + 1)
  { pattern := (high.getLsbD 0).toNat * 256 + low.toNat
    priority := high.getLsbD 4
    paletteSelect := high.getLsbD 3
    vflip := high.getLsbD 2
    hflip := high.getLsbD 1 }

/-- Bit `c` of `colourMask(p)`: some pixel of pattern `p` has colour `c` (R532). -/
def Vdp.colourMaskBit (v : Vdp) (p : Fin 512) (c : Fin 16) : Bool :=
  (List.finRange 8).any fun y => (List.finRange 8).any fun x => v.pixel p y x == c.val

/-- Byte `k` of the sprite attribute slice `vram[satBase .. satBase + 255]` (R533). -/
def Vdp.spriteAttr (v : Vdp) (k : Fin 256) : Byte := Mem.read v.vram (v.satBase + k.val)

end Sys2Proof.Machine
end

