-- ==== Sys2Proof/Safety.lean ====
section
/-! DEFINITION. The terms in which claims are made: the canonical form of the memories, the invariants of the state,
and a running machine. -/

namespace Sys2Proof.Machine

/-- Every byte store of the machine is in canonical form and within its size (R48 to R50, R53, R54). -/
abbrev State.MemWf (s : State) : Prop :=
  Mem.wf (256 * 16384) s.cart.rom ∧ Mem.wf 0x2000 s.mem.sysRam ∧ Mem.wf 0x4000 s.mem.cartRam0 ∧
    Mem.wf 0x4000 s.mem.cartRam1 ∧ Mem.wf 0x4000 s.vdp.vram ∧ Mem.wf 32 s.vdp.cram

/-- The scroll snapshots have one entry per visible line (R59, R527). -/
abbrev State.ScrollWf (s : State) : Prop :=
  s.vdp.hscrollLine.length = 192 ∧ s.vdp.vscrollLine.length = 192

/-- The VDP's time base: the last V-sync is not in the future, the next line boundary is after it, and `lineReload` is
the last value written to register 10 (R58). -/
abbrev State.TimingWf (s : State) : Prop :=
  s.vdp.lastVsync ≤ s.cycles ∧ s.vdp.lastVsync < s.vdp.lineTarget ∧ s.vdp.lineReload = s.vdp.reg 10

/-- A running machine: no fatal fault raised, and a cartridge that may start (R502, R606). -/
abbrev State.Running (s : State) : Prop := s.fault = none ∧ s.cart.valid = true

/-- Whether two addresses name one byte of system RAM, which is seen twice in 0xC000 to 0xFFFF (R48). -/
def sameRamByte (a b : Word) : Bool :=
  decide (0xC000 ≤ a.toNat) && decide (0xC000 ≤ b.toNat) && decide (a.toNat % 0x2000 = b.toNat % 0x2000)

/-- Whether address `b` lies in the region whose mapping the selector at address `a` decides (R102, R107). -/
def selectorMaps (a b : Word) : Bool :=
  ((a == 0xFFFC#16) && decide (0x8000 ≤ b.toNat) && decide (b.toNat < 0xC000)) ||
  ((a == 0xFFFD#16) && decide (0x0400 ≤ b.toNat) && decide (b.toNat < 0x4000)) ||
  ((a == 0xFFFE#16) && decide (0x4000 ≤ b.toNat) && decide (b.toNat < 0x8000)) ||
  ((a == 0xFFFF#16) && decide (0x8000 ≤ b.toNat) && decide (b.toNat < 0xC000))

/-- Whether a store of one byte at `a` can change what a read of one byte at `b` finds: `b` is that byte, or its mirror in
system RAM, or lies in the slot that the selector at `a` maps (R106, R107). -/
def storeReaches (a b : Word) : Bool := (a == b) || sameRamByte a b || selectorMaps a b

/-- A safe run never raises a fatal fault (R501). -/
abbrev State.Safe (s : State) : Prop := s.fault = none

/-- The state with an instruction fetched and its T-states spent, its effect left out: PC after its `len` bytes, R counted
`m1` times (R41), `cyc` T-states on the clock (R500). -/
def State.advanced (s : State) (len m1 cyc : Nat) : State :=
  { s with pc := s.pc + BitVec.ofNat 16 len, r := countR s.r m1, cycles := s.cycles + cyc }

/-- The six documented flags of F (R36). X1 and X2 are left open, as every flag-writing instruction leaves them (R38). -/
def FlagsAre (f : Byte) (s z h pv n c : Bool) : Prop :=
  flagS f = s ∧ flagZ f = z ∧ flagH f = h ∧ flagPV f = pv ∧ flagN f = n ∧ flagC f = c

/-- `f` has the six documented flags of `known`; X1 and X2 are left open (R38). -/
def SameFlags (f known : Byte) : Prop :=
  FlagsAre f (flagS known) (flagZ known) (flagH known) (flagPV known) (flagN known) (flagC known)

/-- The addresses of the bytes that a push stores, the first stored first (R230). -/
def pushTargets (s : State) : List Word := [s.regs.sp - 1, s.regs.sp - 2]

/-- The address an operand m is stored to, if it is in memory (R324). -/
def Loc8.targets (m : Loc8) (s : State) : List Word :=
  match m with
  | .reg _ => []
  | .atHL => [s.regs.hl]
  | .atIdx x d => [s.ea x d]

/-- The addresses of the bytes that an operation stores in state `s`, with the function its meaning computes each with; the
empty list for a form that stores nothing. -/
def Op.storeTargets (o : Op) (s : State) : List Word :=
  match o with
  | .ldHLReg _ | .ldHLImm _ => [s.regs.hl]
  | .ldIdxReg x d _ => [s.ea x d]
  | .ldIdxNum x d _ => [s.ea x d]
  | .ldBCA => [s.regs.bc]
  | .ldDEA => [s.regs.de]
  | .ldMemA nn => [nn]
  | .ldMemHL nn => [nn, nn + 1]
  | .ldMemPair nn _ => [nn, nn + 1]
  | .ldMemIdx nn _ => [nn, nn + 1]
  | .push _ | .pushIdx _ | .call _ | .rst _ => pushTargets s
  | .callCond k _ => if condHolds k s.regs.f then pushTargets s else []
  | .exSPHL | .exSPIdx _ => [s.regs.sp, s.regs.sp + 1]
  | .incLoc m => Loc8.targets m s
  | .decLoc m => Loc8.targets m s
  | .rot _ m => Loc8.targets m s
  | .resBit _ m => Loc8.targets m s
  | .setBit _ m => Loc8.targets m s
  | .rld | .rrd | .inBlock _ | .inBlockRep _ => [s.regs.hl]
  | .ldBlock _ | .ldBlockRep _ => [s.regs.de]
  | _ => []

/-- The instructions that access a port (47_io.md). -/
def Op.accessesPort : Op → Bool
  | .inAPort _ | .inRegC _ | .outPortA _ | .outCReg _ => true
  | .inBlock _ | .inBlockRep _ | .outBlock _ | .outBlockRep _ => true
  | _ => false

/-- The instructions that may leave PC elsewhere than at the next instruction: control flow and the repeating block
instructions (46_control.md, 48_block.md R430). -/
def Op.branches : Op → Bool
  | .jp _ | .jpCond _ _ | .jpHL | .jpIdx _ | .jr _ | .jrCond _ _ | .djnz _ | .call _ | .callCond _ _ => true
  | .ret | .retCond _ | .reti | .retn | .rst _ => true
  | .inBlockRep _ | .outBlockRep _ | .ldBlockRep _ | .cpBlockRep _ => true
  | _ => false

end Sys2Proof.Machine
end

