-- ==== Sys2Proof/Certificates/Slice0/Obligations.lean ====
section
/-! DEFINITION. The statements for the provers. The statements about an instruction name it by its operation: `i.op = o`
takes in every constructor of `Instr` that spells `o`, at every operand. Each says the words of the instruction (`encode`),
and the whole next state: what is not named in it is unchanged. -/

open Sys2Proof Sys2Proof.Machine

/-! ## 8-bit loads (40_load8.md) -/

/-- R200, R201, R202, R205, R208, R209, R212: the loads of a register. No flag changes.
Constructors: LD r,r' (`ld_B_B` to `ld_A_A`, 49), LD r,n (7), LD r,(HL) (7), LD r,(IX+d) and LD r,(IY+d) (14),
`ld_A_AtBC`, `ld_A_AtDE`, `ld_A_AtNN`. -/
def Obligations.LoadRegister : Prop :=
  ∀ (i : Instr) (s : State),
    (∀ r r', i.op = .ldRegReg r r' →
      encode i = [opXYZ 0b01 r.code r'.code] ∧
      exec i s = .next { s.advanced 1 1 4 with regs := s.regs.set r (s.regs.get r') }) ∧
    (∀ r n, i.op = .ldRegImm r n →
      encode i = [opXYZ 0b00 r.code 0b110, n] ∧
      exec i s = .next { s.advanced 2 1 7 with regs := s.regs.set r n }) ∧
    (∀ r, i.op = .ldRegHL r →
      encode i = [opXYZ 0b01 r.code 0b110] ∧
      exec i s = .next { s.advanced 1 1 7 with regs := s.regs.set r (s.read s.regs.hl) }) ∧
    (∀ r x d, i.op = .ldRegIdx r x d →
      encode i = [x.lead, opXYZ 0b01 r.code 0b110, d] ∧
      exec i s = .next { s.advanced 3 2 19 with
        regs := s.regs.set r (s.read (s.regs.getIdx x + sext8 d)) }) ∧
    (i.op = .ldABC →
      encode i = [0x0A] ∧
      exec i s = .next { s.advanced 1 1 7 with regs := { s.regs with a := s.read s.regs.bc } }) ∧
    (i.op = .ldADE →
      encode i = [0x1A] ∧
      exec i s = .next { s.advanced 1 1 7 with regs := { s.regs with a := s.read s.regs.de } }) ∧
    (∀ nn, i.op = .ldAMem nn →
      encode i = [0x3A, lo nn, hi nn] ∧
      exec i s = .next { s.advanced 3 1 13 with regs := { s.regs with a := s.read nn } })

/-- R203, R204, R206, R207, R210, R211, R213: the stores of a byte. No register but PC and R changes, no flag changes, and
memory changes by one `MemWrite` at the address named. Constructors: LD (HL),r (7), `ld_AtHL_n`, LD (IX+d),r and
LD (IY+d),r (14), LD (IX+d),n and LD (IY+d),n, `ld_AtBC_A`, `ld_AtDE_A`, `ld_AtNN_A`. -/
def Obligations.StoreByte : Prop :=
  ∀ (i : Instr) (s : State),
    (∀ r, i.op = .ldHLReg r →
      encode i = [opXYZ 0b01 0b110 r.code] ∧
      exec i s = .next { s.advanced 1 1 7 with mem := s.mem.write s.regs.hl (s.regs.get r) }) ∧
    (∀ n, i.op = .ldHLImm n →
      encode i = [0x36, n] ∧
      exec i s = .next { s.advanced 2 1 10 with mem := s.mem.write s.regs.hl n }) ∧
    (∀ x d r, i.op = .ldIdxReg x d r →
      encode i = [x.lead, opXYZ 0b01 0b110 r.code, d] ∧
      exec i s = .next { s.advanced 3 2 19 with
        mem := s.mem.write (s.regs.getIdx x + sext8 d) (s.regs.get r) }) ∧
    (∀ x d n, i.op = .ldIdxNum x d n →
      encode i = [x.lead, 0x36, d, n] ∧
      exec i s = .next { s.advanced 4 2 19 with mem := s.mem.write (s.regs.getIdx x + sext8 d) n }) ∧
    (i.op = .ldBCA →
      encode i = [0x02] ∧
      exec i s = .next { s.advanced 1 1 7 with mem := s.mem.write s.regs.bc s.regs.a }) ∧
    (i.op = .ldDEA →
      encode i = [0x12] ∧
      exec i s = .next { s.advanced 1 1 7 with mem := s.mem.write s.regs.de s.regs.a }) ∧
    (∀ nn, i.op = .ldMemA nn →
      encode i = [0x32, lo nn, hi nn] ∧
      exec i s = .next { s.advanced 3 1 13 with mem := s.mem.write nn s.regs.a })

/-- R214, R215, R216, R217: LD A,I, LD A,R, LD I,A and LD R,A (`ld_A_I`, `ld_A_R`, `ld_I_A`, `ld_R_A`). LD A,R without
`R_READ_EXACT` gives R's bit 7 and seven free bits, for every value of those. LD R,A leaves R equal to A. What LD A,R
reads is the spec's decision D5. -/
def Obligations.InterruptAndRefreshLoads : Prop :=
  ∀ (i : Instr) (s : State),
    (i.op = .ldAI →
      encode i = [0xED, 0x57] ∧
      ∃ f, FlagsAre f s.i.msb (s.i == 0) false s.iff2 false (flagC s.regs.f) ∧
        exec i s = .next { s.advanced 2 2 9 with
          regs := { s.regs with a := s.i, f := f }, draws := s.draws + 1 }) ∧
    (i.op = .ldAR →
      encode i = [0xED, 0x5F] ∧
      ∃ v f n, (s.params.rReadExact = true → v = countR s.r 2) ∧ v.msb = s.r.msb ∧
        FlagsAre f v.msb (v == 0) false s.iff2 false (flagC s.regs.f) ∧
        exec i s = .next { s.advanced 2 2 9 with regs := { s.regs with a := v, f := f }, draws := n }) ∧
    (i.op = .ldIA →
      encode i = [0xED, 0x47] ∧ exec i s = .next { s.advanced 2 2 9 with i := s.regs.a }) ∧
    (i.op = .ldRA →
      encode i = [0xED, 0x4F] ∧ exec i s = .next { s.advanced 2 2 9 with r := s.regs.a })

/-! ## 16-bit loads, the stack and the exchanges (41_load16.md) -/

/-- R231, R232, R239, R240: the 16-bit loads of an immediate and of SP (`ld_BC_nn`, `ld_DE_nn`, `ld_HL_nn`, `ld_SP_nn`,
`ld_IX_nn`, `ld_IY_nn`, `ld_SP_HL`, `ld_SP_IX`, `ld_SP_IY`). No flag changes. -/
def Obligations.LoadWord : Prop :=
  ∀ (i : Instr) (s : State),
    (∀ p nn, i.op = .ldPairImm p nn →
      encode i = [opXPQ 0b00 p.code 0b0001, lo nn, hi nn] ∧
      exec i s = .next { s.advanced 3 1 10 with regs := s.regs.setPair p nn }) ∧
    (∀ x nn, i.op = .ldIdxImm x nn →
      encode i = [x.lead, 0x21, lo nn, hi nn] ∧
      exec i s = .next { s.advanced 4 2 14 with regs := s.regs.setIdx x nn }) ∧
    (i.op = .ldSPHL →
      encode i = [0xF9] ∧
      exec i s = .next { s.advanced 1 1 6 with regs := { s.regs with sp := s.regs.hl } }) ∧
    (∀ x, i.op = .ldSPIdx x →
      encode i = [x.lead, 0xF9] ∧
      exec i s = .next { s.advanced 2 2 10 with regs := { s.regs with sp := s.regs.getIdx x } })

/-- R233 to R238: the 16-bit loads and stores through `(nn)`, the low byte at nn, the high byte at nn + 1 mod 2^16; a store
writes the low byte first. No flag changes. Constructors: `ld_HL_AtNN`, `ld_AtNN_HL`, LD rp,(nn) and LD (nn),rp in their
ED forms (`ld_BC_AtNN`, `ld_DE_AtNN`, `ld_HL_AtNN_ed`, `ld_SP_AtNN`, `ld_AtNN_BC`, `ld_AtNN_DE`, `ld_AtNN_HL_ed`,
`ld_AtNN_SP`), `ld_IX_AtNN`, `ld_IY_AtNN`, `ld_AtNN_IX`, `ld_AtNN_IY`. -/
def Obligations.LoadAndStoreWordAtAddress : Prop :=
  ∀ (i : Instr) (s : State) (nn : Word),
    let w := join (s.read (nn + 1)) (s.read nn)
    let stored := fun v => (s.mem.write nn (lo v)).write (nn + 1) (hi v)
    (i.op = .ldHLMem nn →
      encode i = [0x2A, lo nn, hi nn] ∧
      exec i s = .next { s.advanced 3 1 16 with regs := s.regs.setHL w }) ∧
    (i.op = .ldMemHL nn →
      encode i = [0x22, lo nn, hi nn] ∧
      exec i s = .next { s.advanced 3 1 16 with mem := stored s.regs.hl }) ∧
    (∀ p, i.op = .ldPairMem p nn →
      encode i = [0xED, opXPQ 0b01 p.code 0b1011, lo nn, hi nn] ∧
      exec i s = .next { s.advanced 4 2 20 with regs := s.regs.setPair p w }) ∧
    (∀ p, i.op = .ldMemPair nn p →
      encode i = [0xED, opXPQ 0b01 p.code 0b0011, lo nn, hi nn] ∧
      exec i s = .next { s.advanced 4 2 20 with mem := stored (s.regs.getPair p) }) ∧
    (∀ x, i.op = .ldIdxMem x nn →
      encode i = [x.lead, 0x2A, lo nn, hi nn] ∧
      exec i s = .next { s.advanced 4 2 20 with regs := s.regs.setIdx x w }) ∧
    (∀ x, i.op = .ldMemIdx nn x →
      encode i = [x.lead, 0x22, lo nn, hi nn] ∧
      exec i s = .next { s.advanced 4 2 20 with mem := stored (s.regs.getIdx x) })

/-- R230, R241, R242, R243, R244: PUSH stores the high byte at SP - 1, then the low byte at SP - 2, and SP goes down by 2; POP
reads the low byte at SP and the high byte at SP + 1, and SP goes up by 2. POP AF replaces F whole; no other flag changes.
Constructors: PUSH BC, DE, HL, AF, IX, IY; POP BC, DE, HL, AF, IX, IY. -/
def Obligations.PushAndPop : Prop :=
  ∀ (i : Instr) (s : State),
    let sp := s.regs.sp
    let pushed := fun (w : Word) => (s.mem.write (sp - 1) (hi w)).write (sp - 2) (lo w)
    let top := join (s.read (sp + 1)) (s.read sp)
    (∀ p, i.op = .push p →
      encode i = [opXPQ 0b11 p.code 0b0101] ∧
      exec i s = .next { s.advanced 1 1 11 with
        regs := { s.regs with sp := sp - 2 }, mem := pushed (s.regs.getPair2 p) }) ∧
    (∀ x, i.op = .pushIdx x →
      encode i = [x.lead, 0xE5] ∧
      exec i s = .next { s.advanced 2 2 15 with
        regs := { s.regs with sp := sp - 2 }, mem := pushed (s.regs.getIdx x) }) ∧
    (∀ p, i.op = .pop p →
      encode i = [opXPQ 0b11 p.code 0b0001] ∧
      exec i s = .next { s.advanced 1 1 10 with
        regs := { s.regs with sp := sp + 2 }.setPair2 p top }) ∧
    (∀ x, i.op = .popIdx x →
      encode i = [x.lead, 0xE1] ∧
      exec i s = .next { s.advanced 2 2 14 with
        regs := { s.regs with sp := sp + 2 }.setIdx x top })

/-- R245, R246, R247, R248, R249: the exchanges (`ex_DE_HL`, `ex_AF_AF`, `exx`, `ex_AtSP_HL`, `ex_AtSP_IX`,
`ex_AtSP_IY`). EX AF,AF' moves all eight bits of F; no other flag changes. EX (SP) reads both bytes before it writes both,
the low byte first, and leaves SP. -/
def Obligations.Exchanges : Prop :=
  ∀ (i : Instr) (s : State),
    let g := s.regs
    let top := join (s.read (g.sp + 1)) (s.read g.sp)
    let stored := fun v => (s.mem.write g.sp (lo v)).write (g.sp + 1) (hi v)
    (i.op = .exDEHL →
      encode i = [0xEB] ∧
      exec i s = .next { s.advanced 1 1 4 with regs := { g with d := g.h, e := g.l, h := g.d, l := g.e } }) ∧
    (i.op = .exAF →
      encode i = [0x08] ∧
      exec i s = .next { s.advanced 1 1 4 with
        regs := { g with a := hi g.afShadow, f := lo g.afShadow, afShadow := join g.a g.f } }) ∧
    (i.op = .exx →
      encode i = [0xD9] ∧
      exec i s = .next { s.advanced 1 1 4 with
        regs := { g with
          b := hi g.bcShadow, c := lo g.bcShadow, bcShadow := join g.b g.c
          d := hi g.deShadow, e := lo g.deShadow, deShadow := join g.d g.e
          h := hi g.hlShadow, l := lo g.hlShadow, hlShadow := join g.h g.l } }) ∧
    (i.op = .exSPHL →
      encode i = [0xE3] ∧
      exec i s = .next { s.advanced 1 1 19 with regs := g.setHL top, mem := stored g.hl }) ∧
    (∀ x, i.op = .exSPIdx x →
      encode i = [x.lead, 0xE3] ∧
      exec i s = .next { s.advanced 2 2 23 with regs := g.setIdx x top, mem := stored (g.getIdx x) })

/-! ## 8-bit arithmetic and logic (42_alu8.md) -/

/-- R260, R261, R262, R263, R264, R300, R302: the results and the flags of the 8-bit and the 16-bit helpers, over
unbounded numbers. INC and DEC leave C to their instructions. H, C and PV of the subtractions are the spec's own
derivation from "implemented as `a + ~b + (1−c)`". -/
def Obligations.ArithmeticHelpers : Prop :=
  (∀ (a b : Byte) (c : Bool),
    (let r := (add8 a b c).1;
      r.toNat = (a.toNat + b.toNat + c.toNat) % 256 ∧
      FlagsAre (add8 a b c).2 r.msb (decide (r.toNat = 0)) (decide (a.toNat % 16 + b.toNat % 16 + c.toNat > 15))
        (decide (a.msb = b.msb ∧ r.msb ≠ a.msb)) false (decide (a.toNat + b.toNat + c.toNat > 255))) ∧
    (let r := (sub8 a b c).1;
      (r.toNat : Int) = ((a.toNat : Int) - b.toNat - c.toNat) % 256 ∧
      FlagsAre (sub8 a b c).2 r.msb (decide (r.toNat = 0)) (decide (a.toNat % 16 < b.toNat % 16 + c.toNat))
        (decide (a.msb ≠ b.msb ∧ r.msb ≠ a.msb)) true (decide (a.toNat < b.toNat + c.toNat))) ∧
    (let q := logic8 a c;
      q.1 = a ∧ FlagsAre q.2 a.msb (decide (a.toNat = 0)) c
        (decide (((List.range 8).filter fun k => a.getLsbD k).length % 2 = 0)) false false) ∧
    (let r := (inc8 a).1;
      r.toNat = (a.toNat + 1) % 256 ∧ flagS (inc8 a).2 = r.msb ∧ flagZ (inc8 a).2 = decide (r.toNat = 0) ∧
      flagH (inc8 a).2 = decide (a.toNat % 16 = 15) ∧ flagPV (inc8 a).2 = decide (a.toNat = 0x7F) ∧
      flagN (inc8 a).2 = false) ∧
    (let r := (dec8 a).1;
      r.toNat = (a.toNat + 255) % 256 ∧ flagS (dec8 a).2 = r.msb ∧ flagZ (dec8 a).2 = decide (r.toNat = 0) ∧
      flagH (dec8 a).2 = decide (a.toNat % 16 = 0) ∧ flagPV (dec8 a).2 = decide (a.toNat = 0x80) ∧
      flagN (dec8 a).2 = true)) ∧
  (∀ (a b : Word) (c : Bool),
    (let r := (add16 a b c).1;
      r.toNat = (a.toNat + b.toNat + c.toNat) % 65536 ∧
      FlagsAre (add16 a b c).2 r.msb (decide (r.toNat = 0))
        (decide (a.toNat % 4096 + b.toNat % 4096 + c.toNat > 4095))
        (decide (a.msb = b.msb ∧ r.msb ≠ a.msb)) false (decide (a.toNat + b.toNat + c.toNat > 65535))) ∧
    (let r := (sbc16 a b c).1;
      (r.toNat : Int) = ((a.toNat : Int) - b.toNat - c.toNat) % 65536 ∧
      FlagsAre (sbc16 a b c).2 r.msb (decide (r.toNat = 0)) (decide (a.toNat % 4096 < b.toNat % 4096 + c.toNat))
        (decide (a.msb ≠ b.msb ∧ r.msb ≠ a.msb)) true (decide (a.toNat < b.toNat + c.toNat))))

/-- R265 to R273: ADD, ADC, SUB, SBC, AND, XOR, OR and CP with a register, an immediate, `(HL)`, `(IX+d)` and `(IY+d)`. A
takes the result (CP: A stays), the six documented flags are those of the helper, X1 and X2 are free; nothing else changes
but PC, R and the clock. Constructors: the 64 of 0x80 to 0xBF, the 8 with n, the 8 with (IX+d), the 8 with (IY+d). -/
def Obligations.AluOperations : Prop :=
  ∀ (i : Instr) (s : State) (o : AluOp) (src : Src8), i.op = .alu o src →
    let v : Byte := match src with
      | .reg r => s.regs.get r
      | .imm n => n
      | .atHL => s.read s.regs.hl
      | .atIdx x d => s.read (s.regs.getIdx x + sext8 d)
    let q : Byte × Byte := match o with
      | .add => add8 s.regs.a v false
      | .adc => add8 s.regs.a v (flagC s.regs.f)
      | .sub => sub8 s.regs.a v false
      | .sbc => sub8 s.regs.a v (flagC s.regs.f)
      | .and => logic8 (s.regs.a &&& v) true
      | .xor => logic8 (s.regs.a ^^^ v) false
      | .or => logic8 (s.regs.a ||| v) false
      | .cp => (s.regs.a, (sub8 s.regs.a v false).2)
    let t : State := match src with
      | .reg _ => s.advanced 1 1 4
      | .imm _ => s.advanced 2 1 7
      | .atHL => s.advanced 1 1 7
      | .atIdx _ _ => s.advanced 3 2 19
    encode i = (match src with
      | .reg r => [opXYZ 0b10 o.code r.code]
      | .imm n => [opXYZ 0b11 o.code 0b110, n]
      | .atHL => [opXYZ 0b10 o.code 0b110]
      | .atIdx x d => [x.lead, opXYZ 0b10 o.code 0b110, d]) ∧
    ∃ f, SameFlags f q.2 ∧
      exec i s = .next { t with regs := { s.regs with a := q.1, f := f }, draws := s.draws + 1 }

/-- R274 to R279: INC and DEC of a register, `(HL)`, `(IX+d)` and `(IY+d)`. C is kept, X1 and X2 are free. The register r
takes its value before F does; r is never F. Constructors: INC m and DEC m for the seven registers, (HL), (IX+d),
(IY+d), 20 in all. -/
def Obligations.IncrementAndDecrement : Prop :=
  ∀ (i : Instr) (s : State) (m : Loc8),
    let v : Byte := match m with
      | .reg r => s.regs.get r
      | .atHL => s.read s.regs.hl
      | .atIdx x d => s.read (s.regs.getIdx x + sext8 d)
    let done : Byte → Byte → State := fun w f => match m with
      | .reg r => { s.advanced 1 1 4 with regs := { s.regs.set r w with f := f }, draws := s.draws + 1 }
      | .atHL => { s.advanced 1 1 11 with
          regs := { s.regs with f := f }, mem := s.mem.write s.regs.hl w, draws := s.draws + 1 }
      | .atIdx x d => { s.advanced 3 2 23 with
          regs := { s.regs with f := f }, mem := s.mem.write (s.regs.getIdx x + sext8 d) w, draws := s.draws + 1 }
    let words : BitVec 3 → List Byte := fun z => match m with
      | .reg r => [opXYZ 0b00 r.code z]
      | .atHL => [opXYZ 0b00 0b110 z]
      | .atIdx x d => [x.lead, opXYZ 0b00 0b110 z, d]
    (i.op = .incLoc m →
      encode i = words 0b100 ∧
      ∃ f, FlagsAre f (v + 1).msb (v + 1 == 0) (v &&& 0xF == 0xF) (v == 0x7F) false (flagC s.regs.f) ∧
        exec i s = .next (done (v + 1) f)) ∧
    (i.op = .decLoc m →
      encode i = words 0b101 ∧
      ∃ f, FlagsAre f (v - 1).msb (v - 1 == 0) (v &&& 0xF == 0) (v == 0x80) true (flagC s.regs.f) ∧
        exec i s = .next (done (v - 1) f))

/-- The overflow flag of the 8- and 16-bit sums and differences says that the exact signed result does not fit (derived
from R260, R261, R300, R302). -/
def Obligations.OverflowFlagIsSignedOverflow : Prop :=
  (∀ (a b : Byte) (c : Bool),
    (flagPV (add8 a b c).2 = true ↔ ¬ (-128 ≤ a.toInt + b.toInt + c.toNat ∧ a.toInt + b.toInt + c.toNat ≤ 127)) ∧
    (flagPV (sub8 a b c).2 = true ↔ ¬ (-128 ≤ a.toInt - b.toInt - c.toNat ∧ a.toInt - b.toInt - c.toNat ≤ 127))) ∧
  (∀ (a b : Word) (c : Bool),
    (flagPV (add16 a b c).2 = true ↔
      ¬ (-32768 ≤ a.toInt + b.toInt + c.toNat ∧ a.toInt + b.toInt + c.toNat ≤ 32767)) ∧
    (flagPV (sbc16 a b c).2 = true ↔
      ¬ (-32768 ≤ a.toInt - b.toInt - c.toNat ∧ a.toInt - b.toInt - c.toNat ≤ 32767)))

/-! ## 16-bit arithmetic (43_alu16.md) -/

/-- R303, R304, R305, R306 (with R301): ADD HL,ss, ADD IX,ss and ADD IY,ss keep S, Z and PV; ADC HL,ss and SBC HL,ss
write all flags. X1 and X2 are free. Constructors: ADD HL, ADC HL and SBC HL with BC, DE, HL, SP (12), ADD IX with BC,
DE, IX, SP and ADD IY with BC, DE, IY, SP (8). The flags of SBC are the spec's own derivation from R261. -/
def Obligations.AddAndSubtractWord : Prop :=
  ∀ (i : Instr) (s : State),
    let F := s.regs.f
    (∀ p, i.op = .addHL p →
      encode i = [opXPQ 0b00 p.code 0b1001] ∧
      let q := add16 s.regs.hl (s.regs.getPair p) false
      ∃ f, FlagsAre f (flagS F) (flagZ F) (flagH q.2) (flagPV F) false (flagC q.2) ∧
        exec i s = .next { s.advanced 1 1 11 with
          regs := { s.regs.setHL q.1 with f := f }, draws := s.draws + 1 }) ∧
    (∀ x p, i.op = .addIdx x p →
      encode i = [x.lead, opXPQ 0b00 p.code 0b1001] ∧
      let q := add16 (s.regs.getIdx x)
        (match p with | .bc => s.regs.bc | .de => s.regs.de | .self => s.regs.getIdx x | .sp => s.regs.sp) false
      ∃ f, FlagsAre f (flagS F) (flagZ F) (flagH q.2) (flagPV F) false (flagC q.2) ∧
        exec i s = .next { s.advanced 2 2 15 with
          regs := { s.regs.setIdx x q.1 with f := f }, draws := s.draws + 1 }) ∧
    (∀ p, i.op = .adcHL p →
      encode i = [0xED, opXPQ 0b01 p.code 0b1010] ∧
      let q := add16 s.regs.hl (s.regs.getPair p) (flagC F)
      ∃ f, SameFlags f q.2 ∧
        exec i s = .next { s.advanced 2 2 15 with
          regs := { s.regs.setHL q.1 with f := f }, draws := s.draws + 1 }) ∧
    (∀ p, i.op = .sbcHL p →
      encode i = [0xED, opXPQ 0b01 p.code 0b0010] ∧
      let q := sbc16 s.regs.hl (s.regs.getPair p) (flagC F)
      ∃ f, SameFlags f q.2 ∧
        exec i s = .next { s.advanced 2 2 15 with
          regs := { s.regs.setHL q.1 with f := f }, draws := s.draws + 1 })

/-- R307, R308, R309, R310: INC and DEC of BC, DE, HL, SP, IX and IY (12 constructors), mod 2^16, no flag changed. -/
def Obligations.IncrementAndDecrementWord : Prop :=
  ∀ (i : Instr) (s : State),
    (∀ p, i.op = .incPair p →
      encode i = [opXPQ 0b00 p.code 0b0011] ∧
      exec i s = .next { s.advanced 1 1 6 with regs := s.regs.setPair p (s.regs.getPair p + 1) }) ∧
    (∀ p, i.op = .decPair p →
      encode i = [opXPQ 0b00 p.code 0b1011] ∧
      exec i s = .next { s.advanced 1 1 6 with regs := s.regs.setPair p (s.regs.getPair p - 1) }) ∧
    (∀ x, i.op = .incIdx x →
      encode i = [x.lead, 0x23] ∧
      exec i s = .next { s.advanced 2 2 10 with regs := s.regs.setIdx x (s.regs.getIdx x + 1) }) ∧
    (∀ x, i.op = .decIdx x →
      encode i = [x.lead, 0x2B] ∧
      exec i s = .next { s.advanced 2 2 10 with regs := s.regs.setIdx x (s.regs.getIdx x - 1) })

/-! ## Rotates, shifts and bits (44_rotate_shift.md, 45_bit.md) -/

/-- R320, R321, R322, R323: RLCA, RRCA, RLA and RRA. C takes the bit moved out, H = N = 0; S, Z and PV are kept. -/
def Obligations.AccumulatorRotates : Prop :=
  ∀ (i : Instr) (s : State),
    let A := s.regs.a
    let F := s.regs.f
    let done := fun (w : Byte) (c : Bool) => ∃ f,
      FlagsAre f (flagS F) (flagZ F) false (flagPV F) false c ∧
      exec i s = .next { s.advanced 1 1 4 with regs := { s.regs with a := w, f := f }, draws := s.draws + 1 }
    (i.op = .rlca → encode i = [0x07] ∧ done (A.rotateLeft 1) (A.getLsbD 7)) ∧
    (i.op = .rrca → encode i = [0x0F] ∧ done (A.rotateRight 1) (A.getLsbD 0)) ∧
    (i.op = .rla → encode i = [0x17] ∧ done ((A <<< 1) ||| (if flagC F then 1 else 0)) (A.getLsbD 7)) ∧
    (i.op = .rra → encode i = [0x1F] ∧ done ((A >>> 1) ||| (if flagC F then 0x80 else 0)) (A.getLsbD 0))

/-- R324 to R332: RLC, RRC, RL, RR, SLA, SRA, SLL and SRL of a register, `(HL)`, `(IX+d)` and `(IY+d)` (80 constructors).
S, Z and PV come from the result, H = N = 0, C is the bit shifted out, X1 and X2 are free. -/
def Obligations.RotatesAndShifts : Prop :=
  ∀ (i : Instr) (s : State) (o : RotOp) (m : Loc8), i.op = .rot o m →
    let v : Byte := match m with
      | .reg r => s.regs.get r
      | .atHL => s.read s.regs.hl
      | .atIdx x d => s.read (s.regs.getIdx x + sext8 d)
    let old := flagC s.regs.f
    let w : Byte := match o with
      | .rlc => v.rotateLeft 1
      | .rrc => v.rotateRight 1
      | .rl => (v <<< 1) ||| (if old then 1 else 0)
      | .rr => (v >>> 1) ||| (if old then 0x80 else 0)
      | .sla => v <<< 1
      | .sra => v.sshiftRight 1
      | .sll => (v <<< 1) ||| 1
      | .srl => v >>> 1
    let out : Bool := match o with
      | .rlc | .rl | .sla | .sll => v.getLsbD 7
      | .rrc | .rr | .sra | .srl => v.getLsbD 0
    encode i = (match m with
      | .reg r => [0xCB, opXYZ 0b00 o.code r.code]
      | .atHL => [0xCB, opXYZ 0b00 o.code 0b110]
      | .atIdx x d => [x.lead, 0xCB, d, opXYZ 0b00 o.code 0b110]) ∧
    ∃ f, FlagsAre f w.msb (w == 0) false
        (decide (((List.range 8).filter fun k => w.getLsbD k).length % 2 = 0)) false out ∧
      exec i s = .next (match m with
        | .reg r => { s.advanced 2 2 8 with regs := { s.regs.set r w with f := f }, draws := s.draws + 1 }
        | .atHL => { s.advanced 2 2 15 with
            regs := { s.regs with f := f }, mem := s.mem.write s.regs.hl w, draws := s.draws + 1 }
        | .atIdx x d => { s.advanced 4 2 23 with
            regs := { s.regs with f := f }, mem := s.mem.write (s.regs.getIdx x + sext8 d) w,
            draws := s.draws + 1 })

/-- R333, R334: RLD and RRD, the digits of A and of the byte at HL. C is kept, HL is unchanged. -/
def Obligations.DigitRotates : Prop :=
  ∀ (i : Instr) (s : State),
    let A := s.regs.a
    let t := s.read s.regs.hl
    let done := fun (a m : Byte) => ∃ f,
      FlagsAre f a.msb (a == 0) false (parity a) false (flagC s.regs.f) ∧
      exec i s = .next { s.advanced 2 2 18 with
        regs := { s.regs with a := a, f := f }, mem := s.mem.write s.regs.hl m, draws := s.draws + 1 }
    (i.op = .rld → encode i = [0xED, 0x6F] ∧
      done (A.extractLsb' 4 4 ++ t.extractLsb' 4 4) (t.extractLsb' 0 4 ++ A.extractLsb' 0 4)) ∧
    (i.op = .rrd → encode i = [0xED, 0x67] ∧
      done (A.extractLsb' 4 4 ++ t.extractLsb' 0 4) (A.extractLsb' 0 4 ++ t.extractLsb' 4 4))

/-- R350: BIT b of a register, `(HL)`, `(IX+d)` and `(IY+d)`, with every low field z of the last byte of the indexed
forms. Z is the complement of the bit, H = 1, N = 0, C is kept; S, PV, X1 and X2 are free. Nothing is written.
Constructors: BIT b,r (56), BIT b,(HL) (8), BIT b,(IX+d) and BIT b,(IY+d) (16, each with its seven aliases). That S
and PV are free is the spec's decision D4, and that the aliases act as the form with z = 110 its decision D39. -/
def Obligations.BitTest : Prop :=
  ∀ (i : Instr) (s : State) (b : BitVec 3),
    let done := fun (v : Byte) (t : State) => ∃ f,
      flagZ f = !v.getLsbD b.toNat ∧ flagH f = true ∧ flagN f = false ∧ flagC f = flagC s.regs.f ∧
      exec i s = .next { t with regs := { s.regs with f := f }, draws := s.draws + 1 }
    (∀ r, i.op = .bitTestReg b r →
      encode i = [0xCB, opXYZ 0b01 b r.code] ∧ done (s.regs.get r) (s.advanced 2 2 8)) ∧
    (i.op = .bitTestHL b →
      encode i = [0xCB, opXYZ 0b01 b 0b110] ∧ done (s.read s.regs.hl) (s.advanced 2 2 12)) ∧
    (∀ x d z, i.op = .bitTestIdx b x d z →
      encode i = [x.lead, 0xCB, d, opXYZ 0b01 b z] ∧
      done (s.read (s.regs.getIdx x + sext8 d)) (s.advanced 4 2 20))

/-- R351, R352: RES b and SET b of a register, `(HL)`, `(IX+d)` and `(IY+d)` (160 constructors): the bit b becomes 0 or 1, every
other bit of the operand stays, no flag changes. -/
def Obligations.BitResetAndSet : Prop :=
  ∀ (i : Instr) (s : State) (b : BitVec 3) (m : Loc8) (one : Bool),
    i.op = (if one then .setBit b m else .resBit b m) →
    let v : Byte := match m with
      | .reg r => s.regs.get r
      | .atHL => s.read s.regs.hl
      | .atIdx x d => s.read (s.regs.getIdx x + sext8 d)
    let x : BitVec 2 := if one then 0b11 else 0b10
    encode i = (match m with
      | .reg r => [0xCB, opXYZ x b r.code]
      | .atHL => [0xCB, opXYZ x b 0b110]
      | .atIdx j d => [j.lead, 0xCB, d, opXYZ x b 0b110]) ∧
    ∃ w : Byte, (∀ k < 8, w.getLsbD k = if k = b.toNat then one else v.getLsbD k) ∧
      exec i s = .next (match m with
        | .reg r => { s.advanced 2 2 8 with regs := s.regs.set r w }
        | .atHL => { s.advanced 2 2 15 with mem := s.mem.write s.regs.hl w }
        | .atIdx j d => { s.advanced 4 2 23 with mem := s.mem.write (s.regs.getIdx j + sext8 d) w })

/-! ## Control flow (46_control.md). No instruction of this section writes a flag. -/

/-- R166, R371, R372, R373, R374: the eight conditions and their codes, and the absolute jumps (`jp_nn`, JP cc,nn (8), `jp_AtHL`, `jp_AtIX`, `jp_AtIY`). No memory is read by
JP (HL). JP cc costs 10 T-states taken or not. -/
def Obligations.Jumps : Prop :=
  (∀ (i : Instr) (s : State),
    (∀ nn, i.op = .jp nn →
      encode i = [0xC3, lo nn, hi nn] ∧ exec i s = .next { s.advanced 3 1 10 with pc := nn }) ∧
    (∀ k nn, i.op = .jpCond k nn →
      encode i = [opXYZ 0b11 k.code 0b010, lo nn, hi nn] ∧
      exec i s = .next { s.advanced 3 1 10 with pc := if condHolds k s.regs.f then nn else s.pc + 3 }) ∧
    (i.op = .jpHL →
      encode i = [0xE9] ∧ exec i s = .next { s.advanced 1 1 4 with pc := s.regs.hl }) ∧
    (∀ x, i.op = .jpIdx x →
      encode i = [x.lead, 0xE9] ∧ exec i s = .next { s.advanced 2 2 8 with pc := s.regs.getIdx x })) ∧
  (∀ f : Byte,
    condHolds .nz f = !f.getLsbD 6 ∧ condHolds .z f = f.getLsbD 6 ∧
    condHolds .nc f = !f.getLsbD 0 ∧ condHolds .c f = f.getLsbD 0 ∧
    condHolds .po f = !f.getLsbD 2 ∧ condHolds .pe f = f.getLsbD 2 ∧
    condHolds .p f = !f.getLsbD 7 ∧ condHolds .m f = f.getLsbD 7) ∧
  Cond.nz.code = 0 ∧ Cond.z.code = 1 ∧ Cond.nc.code = 2 ∧ Cond.c.code = 3 ∧
  Cond.po.code = 4 ∧ Cond.pe.code = 5 ∧ Cond.p.code = 6 ∧ Cond.m.code = 7

/-- R375, R376, R377: JR e, JR cc,e (4) and DJNZ e. A relative target is the address after the instruction plus the signed
offset, mod 2^16. DJNZ's decrement of B writes no flag. -/
def Obligations.RelativeJumps : Prop :=
  ∀ (i : Instr) (s : State) (e : Byte),
    let target := s.pc + 2 + sext8 e
    (i.op = .jr e →
      encode i = [0x18, e] ∧ exec i s = .next { s.advanced 2 1 12 with pc := target }) ∧
    (∀ k, i.op = .jrCond k e →
      encode i = [opXYZ 0b00 (match k with | .nz => 4 | .z => 5 | .nc => 6 | .c => 7) 0b000, e] ∧
      exec i s = .next
        (if (match k with
            | .nz => !flagZ s.regs.f
            | .z => flagZ s.regs.f
            | .nc => !flagC s.regs.f
            | .c => flagC s.regs.f)
          then { s.advanced 2 1 12 with pc := target } else s.advanced 2 1 7)) ∧
    (i.op = .djnz e →
      encode i = [0x10, e] ∧
      exec i s = .next
        (if s.regs.b = 1
          then { s.advanced 2 1 8 with regs := { s.regs with b := 0 } }
          else { s.advanced 2 1 13 with regs := { s.regs with b := s.regs.b - 1 }, pc := target }))

/-- R378, R379, R384: CALL nn, CALL cc,nn (8) and RST p (8) push the address after the instruction, the high byte at SP - 1
first, then the low byte at SP - 2. A CALL cc not taken changes only PC, R and the clock. -/
def Obligations.Calls : Prop :=
  ∀ (i : Instr) (s : State),
    let sp := s.regs.sp
    let called := fun (t : State) (next target : Word) =>
      { t with
        regs := { s.regs with sp := sp - 2 }
        mem := (s.mem.write (sp - 1) (hi next)).write (sp - 2) (lo next)
        pc := target }
    (∀ nn, i.op = .call nn →
      encode i = [0xCD, lo nn, hi nn] ∧ exec i s = .next (called (s.advanced 3 1 17) (s.pc + 3) nn)) ∧
    (∀ k nn, i.op = .callCond k nn →
      encode i = [opXYZ 0b11 k.code 0b100, lo nn, hi nn] ∧
      exec i s = .next
        (if condHolds k s.regs.f then called (s.advanced 3 1 17) (s.pc + 3) nn else s.advanced 3 1 10)) ∧
    (∀ y, i.op = .rst y →
      encode i = [opXYZ 0b11 y 0b111] ∧
      exec i s = .next (called (s.advanced 1 1 11) (s.pc + 1) (BitVec.ofNat 16 (8 * y.toNat))))

/-- R380, R381, R382, R383: RET, RET cc (8), RETI and RETN pop PC, the low byte at SP; RETI and RETN also copy IFF2 to IFF1. -/
def Obligations.Returns : Prop :=
  ∀ (i : Instr) (s : State),
    let sp := s.regs.sp
    let returned := fun (t : State) =>
      { t with regs := { s.regs with sp := sp + 2 }, pc := join (s.read (sp + 1)) (s.read sp) }
    (i.op = .ret →
      encode i = [0xC9] ∧ exec i s = .next (returned (s.advanced 1 1 10))) ∧
    (∀ k, i.op = .retCond k →
      encode i = [opXYZ 0b11 k.code 0b000] ∧
      exec i s = .next (if condHolds k s.regs.f then returned (s.advanced 1 1 11) else s.advanced 1 1 5)) ∧
    (i.op = .reti →
      encode i = [0xED, 0x4D] ∧ exec i s = .next { returned (s.advanced 2 2 14) with iff1 := s.iff2 }) ∧
    (i.op = .retn →
      encode i = [0xED, 0x45] ∧ exec i s = .next { returned (s.advanced 2 2 14) with iff1 := s.iff2 })

/-! ## Input and output (47_io.md) -/

/-- R400, R401, R402, R403 (with R122): IN A,(n), IN r,(C) (7), OUT (n),A and OUT (C),r (7), over the port space's
operations. The VDP sees the clock as it is before the instruction's T-states. IN r,(C) keeps C and leaves X1, X2
free. The 8-bit port number is the spec's decision D30. -/
def Obligations.PortInstructions : Prop :=
  ∀ (i : Instr) (s : State),
    (∀ n, i.op = .inAPort n →
      encode i = [0xDB, n] ∧
      exec i s = .next { s.advanced 2 1 11 with
        regs := { s.regs with a := (s.portRead n).1 }
        vdp := (s.portRead n).2.vdp
        draws := (s.portRead n).2.draws }) ∧
    (∀ r, i.op = .inRegC r →
      encode i = [0xED, opXYZ 0b01 r.code 0b000] ∧
      let v := (s.portRead s.regs.c).1
      ∃ f, FlagsAre f v.msb (v == 0) false (parity v) false (flagC s.regs.f) ∧
        exec i s = .next { s.advanced 2 2 12 with
          regs := { s.regs.set r v with f := f }
          vdp := (s.portRead s.regs.c).2.vdp
          draws := (s.portRead s.regs.c).2.draws + 1 }) ∧
    (∀ n, i.op = .outPortA n →
      encode i = [0xD3, n] ∧
      exec i s = .next { s.advanced 2 1 11 with
        vdp := (s.portWrite n s.regs.a).vdp
        draws := (s.portWrite n s.regs.a).draws }) ∧
    (∀ r, i.op = .outCReg r →
      encode i = [0xED, opXYZ 0b01 r.code 0b001] ∧
      exec i s = .next { s.advanced 2 2 12 with
        vdp := (s.portWrite s.regs.c (s.regs.get r)).vdp
        draws := (s.portWrite s.regs.c (s.regs.get r)).draws })

/-- R404, R405, R406, R407 (with R430): INI, INIR, IND and INDR. The byte of the port in C goes to HL, HL steps, B
counts down, Z says that B became 0, N = 1, C is kept; S, H, PV, X1 and X2 are free. A repeating form goes back to its
own address, with 21 T-states, while B is not 0. The free flags are the spec's decision D4, one iteration per step its
decision D11. -/
def Obligations.BlockInput : Prop :=
  ∀ (i : Instr) (s : State) (g : Dir),
    let p := s.portRead s.regs.c
    let b := s.regs.b - 1
    let hl := match g with | .inc => s.regs.hl + 1 | .dec => s.regs.hl - 1
    let done := fun (t : State) (f : Byte) =>
      { t with
        regs := { s.regs.setHL hl with b := b, f := f }
        mem := s.mem.write s.regs.hl p.1
        vdp := p.2.vdp
        draws := p.2.draws + 1 }
    let flags := fun (f : Byte) => flagZ f = (b == 0) ∧ flagN f = true ∧ flagC f = flagC s.regs.f
    (i.op = .inBlock g →
      encode i = [0xED, match g with | .inc => 0xA2 | .dec => 0xAA] ∧
      ∃ f, flags f ∧ exec i s = .next (done (s.advanced 2 2 16) f)) ∧
    (i.op = .inBlockRep g →
      encode i = [0xED, match g with | .inc => 0xB2 | .dec => 0xBA] ∧
      ∃ f, flags f ∧
        exec i s = .next
          (if b = 0 then done (s.advanced 2 2 16) f
            else { done (s.advanced 2 2 21) f with pc := s.pc }))

/-- R408, R409, R410, R411 (with R430): OUTI, OTIR, OUTD and OTDR. The byte at HL goes to the port in C, B counts
down, HL steps, Z says that B became 0, N = 1, C is kept; S, H, PV, X1 and X2 are free. The free flags are the spec's
decision D4, one iteration per step its decision D11. -/
def Obligations.BlockOutput : Prop :=
  ∀ (i : Instr) (s : State) (g : Dir),
    let q := s.portWrite s.regs.c (s.read s.regs.hl)
    let b := s.regs.b - 1
    let hl := match g with | .inc => s.regs.hl + 1 | .dec => s.regs.hl - 1
    let done := fun (t : State) (f : Byte) =>
      { t with
        regs := { s.regs.setHL hl with b := b, f := f }
        vdp := q.vdp
        draws := q.draws + 1 }
    let flags := fun (f : Byte) => flagZ f = (b == 0) ∧ flagN f = true ∧ flagC f = flagC s.regs.f
    (i.op = .outBlock g →
      encode i = [0xED, match g with | .inc => 0xA3 | .dec => 0xAB] ∧
      ∃ f, flags f ∧ exec i s = .next (done (s.advanced 2 2 16) f)) ∧
    (i.op = .outBlockRep g →
      encode i = [0xED, match g with | .inc => 0xB3 | .dec => 0xBB] ∧
      ∃ f, flags f ∧
        exec i s = .next
          (if b = 0 then done (s.advanced 2 2 16) f
            else { done (s.advanced 2 2 21) f with pc := s.pc }))

/-! ## Block transfer and compare (48_block.md) -/

/-- R431, R432, R433, R434 (with R430): LDI, LDIR, LDD and LDDR. The byte at HL goes to DE, both step, BC counts down,
PV says that BC is not 0, H = N = 0; S, Z and C are kept, X1 and X2 are free. A repeating form goes back to its own
address, with 21 T-states, while BC is not 0. One iteration per step is the spec's decision D11. -/
def Obligations.BlockTransfer : Prop :=
  ∀ (i : Instr) (s : State) (g : Dir),
    let step := fun (w : Word) => match g with | .inc => w + 1 | .dec => w - 1
    let bc := s.regs.bc - 1
    let done := fun (t : State) (f : Byte) =>
      { t with
        regs := { ((s.regs.setHL (step s.regs.hl)).setDE (step s.regs.de)).setBC bc with f := f }
        mem := s.mem.write s.regs.de (s.read s.regs.hl)
        draws := s.draws + 1 }
    let flags := fun (f : Byte) =>
      FlagsAre f (flagS s.regs.f) (flagZ s.regs.f) false (bc != 0) false (flagC s.regs.f)
    (i.op = .ldBlock g →
      encode i = [0xED, match g with | .inc => 0xA0 | .dec => 0xA8] ∧
      ∃ f, flags f ∧ exec i s = .next (done (s.advanced 2 2 16) f)) ∧
    (i.op = .ldBlockRep g →
      encode i = [0xED, match g with | .inc => 0xB0 | .dec => 0xB8] ∧
      ∃ f, flags f ∧
        exec i s = .next
          (if bc = 0 then done (s.advanced 2 2 16) f
            else { done (s.advanced 2 2 21) f with pc := s.pc }))

/-- R435, R436, R437, R438 (with R430): CPI, CPIR, CPD and CPDR. A is compared with the byte at HL and not written; HL
steps, BC counts down, PV says that BC is not 0, C is kept, X1 and X2 are free. A repeating form goes back to its own
address, with 21 T-states, while BC is not 0 and the bytes differ. One iteration per step is the spec's decision D11.
-/
def Obligations.BlockCompare : Prop :=
  ∀ (i : Instr) (s : State) (g : Dir),
    let v := s.read s.regs.hl
    let r := s.regs.a - v
    let hl := match g with | .inc => s.regs.hl + 1 | .dec => s.regs.hl - 1
    let bc := s.regs.bc - 1
    let done := fun (t : State) (f : Byte) =>
      { t with regs := { (s.regs.setHL hl).setBC bc with f := f }, draws := s.draws + 1 }
    let flags := fun (f : Byte) =>
      FlagsAre f r.msb (r == 0) (decide (s.regs.a.toNat % 16 < v.toNat % 16)) (bc != 0) true (flagC s.regs.f)
    (i.op = .cpBlock g →
      encode i = [0xED, match g with | .inc => 0xA1 | .dec => 0xA9] ∧
      ∃ f, flags f ∧ exec i s = .next (done (s.advanced 2 2 16) f)) ∧
    (i.op = .cpBlockRep g →
      encode i = [0xED, match g with | .inc => 0xB1 | .dec => 0xB9] ∧
      ∃ f, flags f ∧
        exec i s = .next
          (if bc ≠ 0 ∧ r ≠ 0 then { done (s.advanced 2 2 21) f with pc := s.pc }
            else done (s.advanced 2 2 16) f))

/-! ## CPU control (49_cpu_control.md) -/

/-- R450 to R456: NOP, HALT, DI, EI, IM 0, IM 1 and IM 2. No flag changes. PC after HALT is the spec's decision D9,
the shadow of EI its decision D6. -/
def Obligations.CpuControl : Prop :=
  ∀ (i : Instr) (s : State),
    (i.op = .nop → encode i = [0x00] ∧ exec i s = .next (s.advanced 1 1 4)) ∧
    (i.op = .halt → encode i = [0x76] ∧ exec i s = .next { s.advanced 1 1 4 with halted := true }) ∧
    (i.op = .di → encode i = [0xF3] ∧
      exec i s = .next { s.advanced 1 1 4 with iff1 := false, iff2 := false }) ∧
    (i.op = .ei → encode i = [0xFB] ∧
      exec i s = .next { s.advanced 1 1 4 with
        iff1 := true, iff2 := true, eiShadow := if s.params.eiShadow then true else s.eiShadow }) ∧
    (∀ m, i.op = .im m →
      encode i = [0xED, match m with | .im0 => 0x46 | .im1 => 0x56 | .im2 => 0x5E] ∧
      exec i s = .next { s.advanced 2 2 8 with im := m })

/-- R457, R458, R459, R460, R461: NEG, CPL, SCF, CCF and DAA. X1 and X2 are free; every flag that the rule does not name is
kept. -/
def Obligations.AccumulatorOperations : Prop :=
  ∀ (i : Instr) (s : State),
    let A := s.regs.a
    let F := s.regs.f
    let done := fun (t : State) (w f : Byte) =>
      ({ t with regs := { s.regs with a := w, f := f }, draws := s.draws + 1 } : State)
    (i.op = .neg → encode i = [0xED, 0x44] ∧
      ∃ f, SameFlags f (sub8 0 A false).2 ∧
        exec i s = .next (done (s.advanced 2 2 8) (sub8 0 A false).1 f)) ∧
    (i.op = .cpl → encode i = [0x2F] ∧
      ∃ f, FlagsAre f (flagS F) (flagZ F) true (flagPV F) true (flagC F) ∧
        exec i s = .next (done (s.advanced 1 1 4) (A ^^^ 0xFF) f)) ∧
    (i.op = .scf → encode i = [0x37] ∧
      ∃ f, FlagsAre f (flagS F) (flagZ F) false (flagPV F) false true ∧
        exec i s = .next (done (s.advanced 1 1 4) A f)) ∧
    (i.op = .ccf → encode i = [0x3F] ∧
      ∃ f, FlagsAre f (flagS F) (flagZ F) (flagC F) (flagPV F) false (!flagC F) ∧
        exec i s = .next (done (s.advanced 1 1 4) A f)) ∧
    (i.op = .daa → encode i = [0x27] ∧
      let low := A.toNat % 16
      let corr : Byte := (if flagH F = true ∨ low > 9 then 0x06 else 0) ||| (if flagC F = true ∨ A.toNat > 0x99 then 0x60 else 0)
      let w := if flagN F then A - corr else A + corr
      let half := if flagN F then flagH F && decide (low < 6) else decide (low > 9)
      ∃ f, FlagsAre f w.msb (w == 0) half (parity w) (flagN F) (decide (flagC F = true ∨ A.toNat > 0x99)) ∧
        exec i s = .next (done (s.advanced 1 1 4) w f))

/-- DAA corrects the sum and the difference of two two-digit decimal numbers, with the decimal carry and borrow in C (derived
from R461, R260 and R261: "decimal adjust A after a BCD add or subtract"). -/
def Obligations.DaaIsDecimalAdjust : Prop :=
  ∀ (x y : Fin 100),
    let bcd := fun (n : Nat) => BitVec.ofNat 8 (n / 10 % 10 * 16 + n % 10)
    let sum := add8 (bcd x.val) (bcd y.val) false
    let dif := sub8 (bcd x.val) (bcd y.val) false
    (let r := daaResult sum.1 false (flagH sum.2) (flagC sum.2);
      r.1 = bcd (x.val + y.val) ∧ flagC r.2 = decide (100 ≤ x.val + y.val)) ∧
    (let r := daaResult dif.1 true (flagH dif.2) (flagC dif.2);
      r.1 = bcd (100 + x.val - y.val) ∧ flagC r.2 = decide (x.val < y.val))

/-! ## Memory (20_memory.md) -/

/-- R102, R104, R105: what a read finds, region by region; a bank that the cartridge does not have reads as zero; a
16-bit read is its two byte reads, little-endian, wrapping at 64 KiB. Which bank numbers count as missing is the
spec's decision D15. -/
def Obligations.MemoryReadMap : Prop :=
  ∀ (s : State) (a : Word),
    let n := a.toNat
    let rom := fun (bank : Byte) (off : Nat) =>
      if bank.toNat < s.cart.numBanks then Mem.read s.cart.rom (bank.toNat * 16384 + off) else 0
    (n < 0x0400 → s.read a = rom 0 n) ∧
    (0x0400 ≤ n → n < 0x4000 → s.read a = rom s.mem.n0 n) ∧
    (0x4000 ≤ n → n < 0x8000 → s.read a = rom s.mem.n1 (n - 0x4000)) ∧
    (0x8000 ≤ n → n < 0xC000 → s.mem.ctl.getLsbD 3 = false → s.read a = rom s.mem.n2 (n - 0x8000)) ∧
    (0x8000 ≤ n → n < 0xC000 → s.mem.ctl.getLsbD 3 = true →
      s.read a = Mem.read (if s.mem.ctl.getLsbD 2 then s.mem.cartRam1 else s.mem.cartRam0) (n - 0x8000)) ∧
    (0xC000 ≤ n → s.read a = Mem.read s.mem.sysRam (n % 0x2000)) ∧
    (s.read16 a).toNat = (s.read a).toNat + (s.read (a + 1)).toNat * 256

/-- R106, R107, R108: what a write of one byte changes in the mapper and its memories, and that it changes nothing
else; a 16-bit write is its two byte writes, the low byte first, wrapping at 64 KiB. The order of a 16-bit write is
the spec's decision D17; its diagnostics are dropped (D37, notes/assumptions/8.md). -/
def Obligations.MemoryWriteEffect : Prop :=
  ∀ (s : State) (a : Word) (v : Byte),
    let n := a.toNat
    (n < 0x8000 → s.write a v = s) ∧
    (0x8000 ≤ n → n < 0xC000 → s.mem.ctl.getLsbD 3 = false → s.write a v = s) ∧
    (0x8000 ≤ n → n < 0xC000 → s.mem.ctl.getLsbD 3 = true →
      s.write a v = { s with
        mem := if s.mem.ctl.getLsbD 2 then { s.mem with cartRam1 := Mem.write s.mem.cartRam1 (n - 0x8000) v }
          else { s.mem with cartRam0 := Mem.write s.mem.cartRam0 (n - 0x8000) v } }) ∧
    (0xC000 ≤ n →
      s.write a v = { s with
        mem := { s.mem with
          sysRam := Mem.write s.mem.sysRam (n % 0x2000) v
          ctl := if n = 0xFFFC then v else s.mem.ctl
          n0 := if n = 0xFFFD then v else s.mem.n0
          n1 := if n = 0xFFFE then v else s.mem.n1
          n2 := if n = 0xFFFF then v else s.mem.n2 } }) ∧
    (∀ w : Word, s.write16 a w = (s.write a (w.extractLsb' 0 8)).write (a + 1) (w.extractLsb' 8 8))

/-- R109, R110: a byte written to system RAM or to enabled cartridge RAM reads back, through the mirror too; a write to ROM leaves
what is read there; a write in slot 2 changes the selected page only, and any other write, one to the control byte
included, neither page. The premise is the canonical form, an invariant of the machine (StepKeepsMemoryForm). -/
def Obligations.ReadAfterWrite : Prop :=
  ∀ (s : State) (a b : Word) (v : Byte), s.MemWf →
    (0xC000 ≤ a.toNat → (s.write a v).read a = v) ∧
    (0xC000 ≤ a.toNat → 0xC000 ≤ b.toNat → a.toNat % 0x2000 = b.toNat % 0x2000 → (s.write a v).read b = v) ∧
    (0x8000 ≤ a.toNat → a.toNat < 0xC000 → s.mem.ctl.getLsbD 3 = true → (s.write a v).read a = v) ∧
    (a.toNat < 0x8000 → (s.write a v).read a = s.read a) ∧
    (0x8000 ≤ a.toNat → a.toNat < 0xC000 → s.mem.ctl.getLsbD 3 = false → (s.write a v).read a = s.read a) ∧
    (0x8000 ≤ a.toNat → a.toNat < 0xC000 → s.mem.ctl.getLsbD 2 = false →
      (s.write a v).mem.cartRam1 = s.mem.cartRam1) ∧
    (0x8000 ≤ a.toNat → a.toNat < 0xC000 → s.mem.ctl.getLsbD 2 = true →
      (s.write a v).mem.cartRam0 = s.mem.cartRam0) ∧
    (a.toNat < 0x8000 ∨ 0xC000 ≤ a.toNat →
      (s.write a v).mem.cartRam0 = s.mem.cartRam0 ∧ (s.write a v).mem.cartRam1 = s.mem.cartRam1)

/-- The frame of memory for every instruction: where `Op.storeTargets`, the addresses that the meaning stores to, gives `a`,
no byte that a store at `a` cannot reach is changed. A form that stores nothing has no target, so every address reads as
before. `storeReaches` takes in the byte itself, its mirror in system RAM, and the slot that a selector at `a` maps. Every
register-only, jump, return, compare and port-output instruction is such a form; it leaves the mapper and its memories as
they were. No instruction changes the cartridge ROM, the parameters or the recorded fault (R50, R47). -/
def Obligations.MemoryFrame : Prop :=
  ∀ (i : Instr) (s t : State), exec i s = .next t →
    (∀ b, (∀ a ∈ Op.storeTargets i.op s, storeReaches a b = false) → t.read b = s.read b) ∧
    (Op.storeTargets i.op s = [] → t.mem = s.mem ∧ ∀ b, t.read b = s.read b) ∧
    t.cart = s.cart ∧ t.params = s.params ∧ t.fault = s.fault

/-! ## The step (60_exceptions.md section 1, 70_reset_and_hazards.md) -/

/-- R500, R506: on a running machine that is not halted and accepts no interrupt, the step is `exec` of the
instruction that the bytes at PC decode to, on the state with the VDP updated and the EI shadow cleared. Where the
poll accepts an interrupt in IM 1, it is `exec` of the instruction at 0x0038, after the acknowledge. Choices: that the
VDP moves once, at the poll, is the spec's decision D10 (notes/assumptions/18.md); that the step goes on to the
handler after the acknowledge is R500's own [derived] inference (notes/assumptions/18.md); that four bytes are read is
the model's reading (notes/assumptions/15.md). -/
def Obligations.StepRunsDecoded : Prop :=
  ∀ (s : State) (i : Instr) (rest : List Byte), s.Running →
    let u := { s with vdp := s.vdp.update s.params s.cycles, eiShadow := false }
    let asserted := u.vdp.irq && s.iff1 && !s.eiShadow
    (asserted = false → s.halted = false →
      decodeAdmitted s.params [s.read s.pc, s.read (s.pc + 1), s.read (s.pc + 2), s.read (s.pc + 3)] =
        .instr i rest →
      step s = exec i u) ∧
    (asserted = true → s.im = .im1 →
      decodeAdmitted s.params u.acceptIM1.fetchBytes = .instr i rest →
      u.acceptIM1.pc = 0x0038 ∧ step s = exec i u.acceptIM1)

/-- R508: a halted step, with no interrupt accepted, fetches nothing, counts R once and spends 4 T-states; the poll
has updated the VDP. It is the spec's decision D9. That the VDP moves once, at the poll, is its decision D10
(notes/assumptions/18.md). -/
def Obligations.HaltedStep : Prop :=
  ∀ s : State, s.Running → s.halted = true → s.interrupted = false →
    step s = .next { s with
      vdp := s.vdp.update s.params s.cycles
      eiShadow := false
      r := countR s.r 1
      cycles := s.cycles + 4 }

/-- R512, R513: the IM 1 acknowledge pushes PC, the high byte at SP - 1 first, then the low byte at SP - 2, goes to
0x0038, clears both latches and `halted`, counts R once, clears the pending flags whose enables are set, and spends
`IM1_ACK_CYCLES`. Nothing else changes. That IFF2 is cleared, R counted, and which pending flags are cleared are the
spec's decisions D7, D5 and D24; the T-states are its D8. -/
def Obligations.InterruptAcknowledge : Prop :=
  ∀ s : State,
    s.acceptIM1 = { s with
      halted := false
      regs := { s.regs with sp := s.regs.sp - 2 }
      mem := (s.mem.write (s.regs.sp - 1) (hi s.pc)).write (s.regs.sp - 2) (lo s.pc)
      pc := 0x0038
      iff1 := false
      iff2 := false
      r := countR s.r 1
      vdp := { s.vdp with
        vintPending := if s.vdp.vintEnable then false else s.vdp.vintPending
        hintPending := if s.vdp.hintEnable then false else s.vdp.hintPending }
      cycles := s.cycles + s.params.im1AckCycles }

/-- R510, R511, R613: the poll accepts an interrupt only with IFF1 set, the VDP's line high and no EI shadow; so at
the step after EI, and with IFF1 clear, the step is that of the machine after the poll. An interrupt that would be
accepted with IM 0 or IM 2 records UnsupportedInterruptMode with PC, no bytes and the clock, and the rest of the state
is as the poll left it. Choices: the EI shadow is the spec's decision D6; that UnsupportedInterruptMode leaves the
rest as the poll left it is its decision D33; that the VDP moves once, at the poll, is its decision D10; that the step
goes on after the acknowledge is R500's own [derived] inference (notes/assumptions/18.md). A recorded fault is a state
(notes/assumptions/6.md). -/
def Obligations.InterruptAcceptance : Prop :=
  ∀ s : State, s.Running →
    ((s.iff1 = false ∨ s.eiShadow = true ∨ s.polled.vdp.irq = false) → step s = s.polled.afterPoll) ∧
    (s.iff1 = true → s.eiShadow = false → s.polled.vdp.irq = true → s.im = .im1 →
      step s = s.polled.acceptIM1.afterPoll) ∧
    (s.iff1 = true → s.eiShadow = false → s.polled.vdp.irq = true → s.im ≠ .im1 →
      step s = .next { s with
        vdp := s.vdp.update s.params s.cycles
        eiShadow := false
        fault := some (.unsupportedInterruptMode s.pc [] s.cycles) })

/-- R502, R503: bytes at PC that match no admitted row record UnknownOpcode with PC, the bytes read and the clock; no
register, no memory and no clock changes, and the poll's update of the VDP and clearing of the EI shadow stay. What
the fault leaves is the spec's decision D33. A recorded fault is a state (notes/assumptions/6.md). That the VDP moves
once, at the poll, is the spec's decision D10 (notes/assumptions/18.md); that four bytes are read is the model's
reading (notes/assumptions/15.md). -/
def Obligations.UnknownOpcodeFault : Prop :=
  ∀ (s : State) (bytes : List Byte), s.Running → s.halted = false → s.interrupted = false →
    decodeAdmitted s.params s.fetchBytes = .unknown bytes →
    step s = .next { s with
      vdp := s.vdp.update s.params s.cycles
      eiShadow := false
      fault := some (.unknownOpcode s.pc bytes s.cycles) }

/-- R502, R606: once a fatal fault is recorded no step changes anything; a cartridge with no bank or more than 64
banks takes no step (the refusal is the model's way to say so, notes/assumptions/7.md). A step that answers the same
state is the model's reading of R502 (notes/assumptions/6.md). -/
def Obligations.TerminalStates : Prop :=
  ∀ s : State,
    (s.fault ≠ none → step s = .next s) ∧
    (s.fault = none → (s.cart.numBanks = 0 ∨ 64 < s.cart.numBanks) →
      step s = .refused (.cartridgeRefused s.cart.numBanks))

/-- Every instruction of the table completes in every state: `exec` answers a next state (R501: no instruction raises a
fault). Its effect is that of its family's statement. -/
def Obligations.EveryInstructionCompletes : Prop :=
  ∀ (i : Instr) (s : State), ∃ t, exec i s = .next t ∧ t.fault = s.fault ∧ s.cycles + 4 ≤ t.cycles ∧
    t.cycles ≤ s.cycles + 23

/-- R61, R600, R601: the state elements whose values at reset the spec gives, at the first reset and at a reset while
running, which keeps the cartridge and the parameters. But for the zeros of cartridge RAM the values are the spec's
decisions D12, D14 and D18. Choices: a reset while running is R601's own [derived] inference, and that it is the
operation `State.resetAgain`, which keeps the parameters too, is the model's reading (notes/assumptions/19.md). -/
def Obligations.ResetValues : Prop :=
  (∀ s : State, (s = State.reset ∨ ∃ u : State, s = u.resetAgain) →
    s.pc = 0x0000 ∧ s.i = 0x00 ∧ s.r = 0x00 ∧ s.iff1 = false ∧ s.iff2 = false ∧ s.im = .im0 ∧ s.halted = false ∧
    s.eiShadow = false ∧ s.cycles = 0 ∧ s.fault = none ∧
    (∀ k, Mem.read s.mem.cartRam0 k = 0 ∧ Mem.read s.mem.cartRam1 k = 0) ∧
    s.mem.ctl = 0x00 ∧ s.mem.n0 = 0 ∧ s.mem.n1 = 1 ∧ s.mem.n2 = 2 ∧
    (∀ k, s.vdp.reg k = 0x00) ∧ s.vdp.latchPending = false ∧ s.vdp.latchLow = 0 ∧ s.vdp.code = 0 ∧ s.vdp.addr = 0 ∧
    s.vdp.lastVsync = 0 ∧ s.vdp.lineReload = 0 ∧ s.vdp.lineCounter = 0 ∧ s.vdp.lineTarget = s.params.hsyncTime ∧
    s.vdp.hintPending = false ∧ s.vdp.vintPending = false ∧ s.vdp.vintDone = false ∧
    s.vdp.hscrollLine = List.replicate 192 0 ∧ s.vdp.vscrollLine = List.replicate 192 0) ∧
  State.reset.vdp.lineTarget = 216 ∧
  (∀ u : State, u.resetAgain.cart = u.cart ∧ u.resetAgain.params = u.params)

/-! ## The VDP (60_exceptions.md sections 3 to 5) and the ports (20_memory.md section 6) -/

/-- R120, R521, R522, R525: what a port read returns and changes. The status's low seven bits, the V counter (unless
the parameter makes it a function of the clock) and the H counter are free bytes. A VDP port read clears the latch.
They follow the spec's decisions D16, D20, D22, D23 and D28. -/
def Obligations.PortReads : Prop :=
  ∀ (s : State) (p : Byte),
    let v := s.vdp
    (p = 0xBE → s.portRead p =
      (v.readBuffer, { s with vdp := { v with
        latchPending := false
        readBuffer := Mem.read v.vram v.addr.toNat
        addr := BitVec.ofNat 14 ((v.addr.toNat + 1) % 0x4000) } })) ∧
    (p = 0xBF → ∃ x : Byte, x.msb = v.vintPending ∧ s.portRead p =
      (x, { s with
        vdp := { v with latchPending := false, vintPending := false, hintPending := false }
        draws := s.draws + 1 })) ∧
    (p &&& 0xC1 = 0x40 → ∃ (x : Byte) (n : Nat), s.portRead p =
      (if s.params.vcounterIsFunction then Config.vcounterFn (s.cycles - v.lastVsync) else x,
        { s with vdp := { v with latchPending := false }, draws := n })) ∧
    (p &&& 0xC1 = 0x41 → ∃ x : Byte, s.portRead p =
      (x, { s with vdp := { v with latchPending := false }, draws := s.draws + 1 })) ∧
    (p ≠ 0xBE → p ≠ 0xBF → p &&& 0xC1 ≠ 0x40 → p &&& 0xC1 ≠ 0x41 →
      s.portRead p = (Mem.read s.params.extPorts p.toNat, s))

/-- R121, R523, R524: what a port write changes. A write to the data port leaves a free byte in the read buffer; a
write to any port but 0xBE and 0xBF changes nothing. They follow the spec's decisions D19, D21 and D29. -/
def Obligations.PortWrites : Prop :=
  ∀ (s : State) (p b : Byte),
    let v := s.vdp
    (p = 0xBE → ∃ x : Byte, s.portWrite p b = { s with
      vdp := { v with
        latchPending := false
        cram := if v.code = 3 then Mem.write v.cram (v.addr.toNat % 32) b else v.cram
        vram := if v.code = 3 then v.vram else Mem.write v.vram v.addr.toNat b
        addr := BitVec.ofNat 14 ((v.addr.toNat + 1) % 0x4000)
        readBuffer := x }
      draws := s.draws + 1 }) ∧
    (p = 0xBF → v.latchPending = false →
      s.portWrite p b = { s with vdp := { v with latchLow := b, latchPending := true } }) ∧
    (p = 0xBF → v.latchPending = true → b.toNat / 16 = 8 →
      s.portWrite p b = { s with
        vdp := { v with latchPending := false, code := 2 }.registerWrite s.params s.cycles
          (BitVec.ofNat 4 (b.toNat % 16)) v.latchLow }) ∧
    (p = 0xBF → v.latchPending = true → b.toNat / 16 ≠ 8 →
      let a : BitVec 14 := BitVec.ofNat 14 (b.toNat % 64 * 256 + v.latchLow.toNat)
      s.portWrite p b = { s with
        vdp := { v with
          latchPending := false
          code := BitVec.ofNat 2 (b.toNat / 64)
          addr := if b.toNat / 64 = 0 then a + 1 else a
          readBuffer := if b.toNat / 64 = 0 then Mem.read v.vram a.toNat else v.readBuffer } }) ∧
    (p ≠ 0xBE → p ≠ 0xBF → s.portWrite p b = s)

/-- R526, R527: a VDP register write stores the byte; register 8 (9) also sets the horizontal (vertical) scroll of
every line not yet rendered at the clock of the write, register 10 the line-interrupt reload value, and no register
does anything else. They follow the spec's decisions D32 and D38. -/
def Obligations.VdpRegisterWrite : Prop :=
  ∀ (v : Vdp) (p : Params) (now : Nat) (i : BitVec 4) (b : Byte),
    let w := v.registerWrite p now i b
    let line := (now - v.lastVsync) / p.hsyncTime
    w = { v with
      vreg := w.vreg, hscrollLine := w.hscrollLine, vscrollLine := w.vscrollLine, lineReload := w.lineReload } ∧
    (∀ j, w.reg j = if j = i then b else v.reg j) ∧
    w.lineReload = (if i = 10 then b else v.lineReload) ∧
    w.hscrollLine.length = v.hscrollLine.length ∧ w.vscrollLine.length = v.vscrollLine.length ∧
    (∀ k, k < v.hscrollLine.length →
      w.hscrollLine[k]? = if i = 8 ∧ line ≤ k then some b else v.hscrollLine[k]?) ∧
    (∀ k, k < v.vscrollLine.length →
      w.vscrollLine[k]? = if i = 9 ∧ line ≤ k then some b else v.vscrollLine[k]?)

/-- R541: in the visible part of a frame whose line counter was loaded with the reload value L at the frame wrap, the
update at clock t has passed n = (t - lastVsync) div HSYNCCYCLETIME boundaries: the line interrupt is pending once n
reaches L + 1, the counter has come down, modulo L + 1, and the next boundary is the one after t. Which boundaries
count is the spec's decision D26. -/
def Obligations.LineInterruptPeriod : Prop :=
  ∀ (p : Params) (v : Vdp) (t : Nat), 0 < p.hsyncTime → p.vframeTime ≤ p.vsyncTime →
    v.lineCounter = v.lineReload → v.lineTarget = v.lastVsync + p.hsyncTime → v.hintPending = false →
    v.lastVsync ≤ t → t < v.lastVsync + p.vframeTime →
    let n := (t - v.lastVsync) / p.hsyncTime
    let w := v.update p t
    w.hintPending = decide (v.lineReload.toNat + 1 ≤ n) ∧
    w.lineCounter.toNat = v.lineReload.toNat - n % (v.lineReload.toNat + 1) ∧
    w.lineTarget = v.lastVsync + (n + 1) * p.hsyncTime ∧
    w.vintPending = v.vintPending

/-- R542, R543: past VFRAMETIME of a frame the first update asserts the frame interrupt and later ones do not; at
VSYNCCYCLETIME the frame wraps: the clock is the new V-sync, the frame interrupt may be asserted again, and every
scroll snapshot is that of register 8 or 9. The wrap leaves `vintPending`. What the wrap does is the spec's decision
D27. -/
def Obligations.FrameInterrupt : Prop :=
  ∀ (p : Params) (v : Vdp) (t : Nat), 0 < p.hsyncTime → 0 < p.vframeTime → v.lastVsync ≤ t →
    let el := t - v.lastVsync
    let w := v.update p t
    (el < p.vframeTime → el < p.vsyncTime →
      w.vintPending = v.vintPending ∧ w.vintDone = v.vintDone ∧ w.lastVsync = v.lastVsync) ∧
    (p.vframeTime ≤ el → el < p.vsyncTime →
      w.vintPending = (v.vintPending || !v.vintDone) ∧ w.vintDone = true ∧ w.lastVsync = v.lastVsync) ∧
    (p.vsyncTime ≤ el →
      w.lastVsync = t ∧ w.vintDone = false ∧ w.vintPending = v.vintPending ∧ w.lineCounter = v.lineReload ∧
      w.lineTarget = t + p.hsyncTime ∧ w.hintPending = v.hintPending ∧
      (∀ b ∈ w.hscrollLine, b = v.reg 8) ∧ (∀ b ∈ w.vscrollLine, b = v.reg 9) ∧
      w.hscrollLine.length = v.hscrollLine.length ∧ w.vscrollLine.length = v.vscrollLine.length)

/-- R528, R530: a colour component of the palette is 0, 85, 170 or 255, and the inverse transform of a decoded pattern row gives
the four plane bytes back ("encoding the 8×8 decoded buffer back by the inverse transform yields the original bytes"). -/
def Obligations.DecodedViews : Prop :=
  ∀ v : Vdp,
    (∀ i : Fin 32,
      let c := (Mem.read v.cram i.val).toNat
      v.palette i = (c % 4 * 85, c / 4 % 4 * 85, c / 16 % 4 * 85)) ∧
    (∀ (p : Fin 512) (y : Fin 8) (k : Fin 4),
      planeByte (fun x => v.pixel p y x) k.val = Mem.read v.vram (32 * p.val + 4 * y.val + k.val)) ∧
    (∀ (p : Fin 512) (y x : Fin 8), v.pixel p y x < 16)

/-! ## Encoding (30_encoding.md) -/

/-- Decode and encode agree, for every instruction, with every operand at every value: the decoder reads back the instruction
encoded and leaves the bytes after it (R161 to R176). -/
def Obligations.DecodeOfEncode : Prop :=
  ∀ (i : Instr) (rest : List Byte), decode (encode i ++ rest) = .instr i rest

/-- The other direction: bytes that decode to an instruction begin with its encoding, so no two byte sequences spell one
instruction and none is read past its length (R161 to R178). -/
def Obligations.EncodeOfDecode : Prop :=
  ∀ (bytes : List Byte) (i : Instr) (rest : List Byte),
    decode bytes = .instr i rest → bytes = encode i ++ rest

/-- R160: with `ADMIT_UNLISTED` every row decodes; without it, exactly the rows of class `unlisted` are UnknownOpcode:
RETI, RETN, RLD, RRD, CPD, CPDR, IND, INDR, OTDR, LD I,A, LD R,A and the ED-prefixed 16-bit loads. The class unlisted
is the spec's decision D1. -/
def Obligations.AdmittedRows : Prop :=
  ∀ (p : Params) (i : Instr) (rest : List Byte),
    let unlisted := match i.op with
      | .reti | .retn | .rld | .rrd | .cpBlock .dec | .cpBlockRep .dec | .inBlock .dec | .inBlockRep .dec => true
      | .outBlockRep .dec | .ldIA | .ldRA | .ldPairMem _ _ | .ldMemPair _ _ => true
      | _ => false
    decodeAdmitted p (encode i ++ rest) =
      if p.admitUnlisted = false ∧ unlisted = true then .unknown ((encode i).take 2) else .instr i rest

/-- R173, R174, R175, R176, R177: the second bytes that spell no instruction. After 0xED, every byte that R174 does
not list; after 0xDD and 0xFD, every byte that R175 does not list; in the DD/FD CB form, every operation byte but
those of R176. They are the spec's decisions D2, D39 and D40. -/
def Obligations.UnadmittedBytes : Prop :=
  ∀ (p op d : Byte) (rest : List Byte),
    let x := op.toNat / 64
    let y := op.toNat / 8 % 8
    let z := op.toNat % 8
    let ed := (x = 1 ∧ (z = 0 ∨ z = 1) ∧ y ≠ 6) ∨ (x = 1 ∧ (z = 2 ∨ z = 3)) ∨
      op ∈ [0x44#8, 0x45#8, 0x4D#8, 0x46#8, 0x56#8, 0x5E#8, 0x47#8, 0x4F#8, 0x57#8, 0x5F#8, 0x67#8, 0x6F#8] ∨
      (x = 2 ∧ 4 ≤ y ∧ z < 4)
    let idx := op ∈ [0x09#8, 0x19#8, 0x29#8, 0x39#8, 0x21#8, 0x22#8, 0x2A#8, 0x23#8, 0x2B#8, 0x34#8, 0x35#8, 0x36#8,
        0xE1#8, 0xE3#8, 0xE5#8, 0xE9#8, 0xF9#8, 0xCB#8] ∨
      (x = 1 ∧ z = 6 ∧ y ≠ 6) ∨ (x = 1 ∧ y = 6 ∧ z ≠ 6) ∨ (x = 2 ∧ z = 6)
    (¬ ed → decode (0xED#8 :: op :: rest) = .unknown [0xED#8, op]) ∧
    (p = 0xDD#8 ∨ p = 0xFD#8 → ¬ idx → decode (p :: op :: rest) = .unknown [p, op]) ∧
    (p = 0xDD#8 ∨ p = 0xFD#8 → z ≠ 6 → x ≠ 1 →
      decode (p :: 0xCB#8 :: d :: op :: rest) = .unknown [p, 0xCB#8, d, op])

/-- A few words written out from the spec's encodings, one or more of each family, decode to the instructions they stand
for (R161 to R176). -/
def Obligations.WordsDecode : Prop :=
  decode [0x48] = .instr .ld_C_B [] ∧
  decode [0x01, 0x10, 0x33] = .instr (.ld_BC_nn 0x3310) [] ∧
  decode [0xC6, 0x70] = .instr (.add_A_n 0x70) [] ∧
  decode [0xED, 0x52] = .instr .sbc_HL_DE [] ∧
  decode [0xDD, 0xCB, 0x01, 0x16] = .instr (.rl_AtIXd 0x01) [] ∧
  decode [0xFD, 0xCB, 0x05, 0xFE] = .instr (.set_7_AtIYd 0x05) [] ∧
  decode [0xCD, 0x00, 0x80] = .instr (.call_nn 0x8000) [] ∧
  decode [0xDB, 0xBF] = .instr (.in_A_PortN 0xBF) [] ∧
  decode [0xED, 0xB0] = .instr .ldir [] ∧
  decode [0x76] = .instr .halt []

/-! ## Invariants and whole-machine rules -/

/-- Every step keeps the canonical form of every memory of the machine: system RAM, both cartridge-RAM pages, ROM, VRAM and
CRAM. -/
def Obligations.StepKeepsMemoryForm : Prop :=
  ∀ s t : State, step s = .next t → s.MemWf → t.MemWf

/-- Every step keeps the VDP's time base (the last V-sync not in the future, the next line boundary after it, `lineReload` the
last value of register 10) and the 192 entries of each scroll snapshot, for every line length but zero (R58, R59). -/
def Obligations.StepKeepsVideoTiming : Prop :=
  ∀ s t : State, step s = .next t → 0 < s.params.hsyncTime ∧ s.TimingWf ∧ s.ScrollWf →
    0 < t.params.hsyncTime ∧ t.TimingWf ∧ t.ScrollWf

/-- Both invariants hold at reset, and after a reset while running of a machine whose ROM is in canonical form and
whose line length is not zero. That system RAM, VRAM and CRAM list nothing at reset is the model's choice
(notes/assumptions/4.md). That a reset while running is `State.resetAgain`, with the cartridge and the parameters kept
and the open elements zero again, is the model's reading of R601's [derived] sentence (notes/assumptions/19.md). -/
def Obligations.ResetMeetsInvariants : Prop :=
  (State.reset.MemWf ∧ 0 < State.reset.params.hsyncTime ∧ State.reset.TimingWf ∧ State.reset.ScrollWf) ∧
  (∀ s : State, Mem.wf (256 * 16384) s.cart.rom → 0 < s.params.hsyncTime →
    s.resetAgain.MemWf ∧ 0 < s.resetAgain.params.hsyncTime ∧ s.resetAgain.TimingWf ∧ s.resetAgain.ScrollWf)

/-- R35, R40, R41, R178: every instruction but LD R,A adds one to R's low seven bits, or two if it is prefixed, mod
128, and keeps R's top bit; and an instruction that is no control transfer and does not repeat leaves PC after its
bytes, mod 2^16. How R counts is the spec's decision D5. -/
def Obligations.RefreshAndPcAdvance : Prop :=
  ∀ (i : Instr) (s t : State), exec i s = .next t →
    let m1 := match encode i with
      | b :: _ => if b = 0xCB ∨ b = 0xED ∨ b = 0xDD ∨ b = 0xFD then 2 else 1
      | [] => 0
    (i.op ≠ .ldRA → t.r.toNat % 128 = (s.r.toNat + m1) % 128 ∧ t.r.msb = s.r.msb) ∧
    (Op.branches i.op = false → t.pc = s.pc + BitVec.ofNat 16 (encode i).length)

/-- R39, R42, R43, R44, R45: who changes the control registers: I only LD I,A; IM only IM 0, IM 1 and IM 2; `halted` only HALT,
which sets it; IFF1 only DI, EI, RETI and RETN; IFF2 and the EI shadow only DI and EI, and EI. -/
def Obligations.ControlRegisterWriters : Prop :=
  ∀ (i : Instr) (s t : State), exec i s = .next t →
    (i.op ≠ .ldIA → t.i = s.i) ∧
    ((∀ m, i.op ≠ .im m) → t.im = s.im) ∧
    (i.op ≠ .halt → t.halted = s.halted) ∧
    (i.op ≠ .di → i.op ≠ .ei → t.iff2 = s.iff2) ∧
    (i.op ≠ .di → i.op ≠ .ei → i.op ≠ .reti → i.op ≠ .retn → t.iff1 = s.iff1) ∧
    (i.op ≠ .ei → t.eiShadow = s.eiShadow)

/-- R53, R55, R100: an instruction that accesses no port leaves the whole VDP as it was: VRAM, CRAM, the registers and
the interrupt generator are reached only through ports. R53, R55 and R100 say it of VRAM, CRAM and the registers; that
the interrupt generator moves between polls through ports only is the spec's decision D10 (R500, R614;
notes/assumptions/18.md). -/
def Obligations.VdpOnlyThroughPorts : Prop :=
  ∀ (i : Instr) (s t : State), exec i s = .next t → Op.accessesPort i.op = false → t.vdp = s.vdp

/-- R46, R50: no step turns the clock back, changes the cartridge's ROM or the parameters, or clears a recorded fault. -/
def Obligations.StepMonotone : Prop :=
  ∀ s t : State, step s = .next t →
    s.cycles ≤ t.cycles ∧ t.cart = s.cart ∧ t.params = s.params ∧ (s.fault ≠ none → t.fault = s.fault)
end

