-- ==== Sys2Proof/Laws/Bits.lean ====
section
/-! SUPPORT. The byte-order helpers of R10: a word is its two halves, and a word's halves are the bytes it was joined of. -/

namespace Sys2Proof

theorem getLsbD_join (h l : Byte) (i : Nat) :
    (join h l).getLsbD i = if i < 8 then l.getLsbD i else h.getLsbD (i - 8) := BitVec.getLsbD_append

@[simp] theorem hi_join (h l : Byte) : hi (join h l) = h := by
  apply BitVec.eq_of_getLsbD_eq
  intro i h8
  have h1 : ¬ 8 + i < 8 := by omega
  have h2 : 8 + i - 8 = i := by omega
  simp only [hi, BitVec.getLsbD_extractLsb', getLsbD_join, h1, h2, h8, decide_true, Bool.true_and, if_false]

@[simp] theorem lo_join (h l : Byte) : lo (join h l) = l := by
  apply BitVec.eq_of_getLsbD_eq
  intro i h8
  simp only [lo, BitVec.getLsbD_extractLsb', getLsbD_join, h8, Nat.zero_add, decide_true, Bool.true_and, if_true]

@[simp] theorem join_hi_lo (w : Word) : join (hi w) (lo w) = w := by
  apply BitVec.eq_of_getLsbD_eq
  intro i h16
  simp only [getLsbD_join, hi, lo, BitVec.getLsbD_extractLsb', Nat.zero_add]
  by_cases h : i < 8
  · simp [h]
  · have h2 : i - 8 < 8 := by omega
    have h3 : 8 + (i - 8) = i := by omega
    simp [h, h2, h3]

/-- A word is given by its two halves. -/
theorem eq_of_hi_lo {v w : Word} (h1 : hi v = hi w) (h2 : lo v = lo w) : v = w := by
  rw [← join_hi_lo v, ← join_hi_lo w, h1, h2]

end Sys2Proof
end

