-- ==== Sys2Proof/Laws/State.lean ====
section
/-! SUPPORT. One lemma per field of `State` for each named update, each true by unfolding, so that no later proof opens a
record update; and the same for the fields of `Regs`, `Mapper` and `Vdp`. -/

namespace Sys2Proof.Machine

/-! ### `State.mapRegs` -/

@[simp] theorem State.mapRegs_regs (s : State) (f : Regs → Regs) : (s.mapRegs f).regs = f s.regs := rfl
@[simp] theorem State.mapRegs_pc (s : State) (f : Regs → Regs) : (s.mapRegs f).pc = s.pc := rfl
@[simp] theorem State.mapRegs_i (s : State) (f : Regs → Regs) : (s.mapRegs f).i = s.i := rfl
@[simp] theorem State.mapRegs_r (s : State) (f : Regs → Regs) : (s.mapRegs f).r = s.r := rfl
@[simp] theorem State.mapRegs_iff1 (s : State) (f : Regs → Regs) : (s.mapRegs f).iff1 = s.iff1 := rfl
@[simp] theorem State.mapRegs_iff2 (s : State) (f : Regs → Regs) : (s.mapRegs f).iff2 = s.iff2 := rfl
@[simp] theorem State.mapRegs_im (s : State) (f : Regs → Regs) : (s.mapRegs f).im = s.im := rfl
@[simp] theorem State.mapRegs_halted (s : State) (f : Regs → Regs) : (s.mapRegs f).halted = s.halted := rfl
@[simp] theorem State.mapRegs_eiShadow (s : State) (f : Regs → Regs) : (s.mapRegs f).eiShadow = s.eiShadow := rfl
@[simp] theorem State.mapRegs_cycles (s : State) (f : Regs → Regs) : (s.mapRegs f).cycles = s.cycles := rfl
@[simp] theorem State.mapRegs_fault (s : State) (f : Regs → Regs) : (s.mapRegs f).fault = s.fault := rfl
@[simp] theorem State.mapRegs_cart (s : State) (f : Regs → Regs) : (s.mapRegs f).cart = s.cart := rfl
@[simp] theorem State.mapRegs_mem (s : State) (f : Regs → Regs) : (s.mapRegs f).mem = s.mem := rfl
@[simp] theorem State.mapRegs_vdp (s : State) (f : Regs → Regs) : (s.mapRegs f).vdp = s.vdp := rfl
@[simp] theorem State.mapRegs_draws (s : State) (f : Regs → Regs) : (s.mapRegs f).draws = s.draws := rfl
@[simp] theorem State.mapRegs_params (s : State) (f : Regs → Regs) : (s.mapRegs f).params = s.params := rfl

/-! ### `State.resetAgain` -/

@[simp] theorem State.resetAgain_regs (s : State) : s.resetAgain.regs = Regs.reset := rfl
@[simp] theorem State.resetAgain_pc (s : State) : s.resetAgain.pc = 0x0000 := rfl
@[simp] theorem State.resetAgain_i (s : State) : s.resetAgain.i = 0x00 := rfl
@[simp] theorem State.resetAgain_r (s : State) : s.resetAgain.r = 0x00 := rfl
@[simp] theorem State.resetAgain_iff1 (s : State) : s.resetAgain.iff1 = false := rfl
@[simp] theorem State.resetAgain_iff2 (s : State) : s.resetAgain.iff2 = false := rfl
@[simp] theorem State.resetAgain_im (s : State) : s.resetAgain.im = .im0 := rfl
@[simp] theorem State.resetAgain_halted (s : State) : s.resetAgain.halted = false := rfl
@[simp] theorem State.resetAgain_eiShadow (s : State) : s.resetAgain.eiShadow = false := rfl
@[simp] theorem State.resetAgain_cycles (s : State) : s.resetAgain.cycles = 0 := rfl
@[simp] theorem State.resetAgain_fault (s : State) : s.resetAgain.fault = none := rfl
@[simp] theorem State.resetAgain_cart (s : State) : s.resetAgain.cart = s.cart := rfl
@[simp] theorem State.resetAgain_mem (s : State) : s.resetAgain.mem = Mapper.reset := rfl
@[simp] theorem State.resetAgain_vdp (s : State) : s.resetAgain.vdp = Vdp.reset s.params := rfl
@[simp] theorem State.resetAgain_draws (s : State) : s.resetAgain.draws = s.draws := rfl
@[simp] theorem State.resetAgain_params (s : State) : s.resetAgain.params = s.params := rfl

/-! ### `State.mapVdp` -/

@[simp] theorem State.mapVdp_regs (s : State) (f : Vdp → Vdp) : (s.mapVdp f).regs = s.regs := rfl
@[simp] theorem State.mapVdp_pc (s : State) (f : Vdp → Vdp) : (s.mapVdp f).pc = s.pc := rfl
@[simp] theorem State.mapVdp_i (s : State) (f : Vdp → Vdp) : (s.mapVdp f).i = s.i := rfl
@[simp] theorem State.mapVdp_r (s : State) (f : Vdp → Vdp) : (s.mapVdp f).r = s.r := rfl
@[simp] theorem State.mapVdp_iff1 (s : State) (f : Vdp → Vdp) : (s.mapVdp f).iff1 = s.iff1 := rfl
@[simp] theorem State.mapVdp_iff2 (s : State) (f : Vdp → Vdp) : (s.mapVdp f).iff2 = s.iff2 := rfl
@[simp] theorem State.mapVdp_im (s : State) (f : Vdp → Vdp) : (s.mapVdp f).im = s.im := rfl
@[simp] theorem State.mapVdp_halted (s : State) (f : Vdp → Vdp) : (s.mapVdp f).halted = s.halted := rfl
@[simp] theorem State.mapVdp_eiShadow (s : State) (f : Vdp → Vdp) : (s.mapVdp f).eiShadow = s.eiShadow := rfl
@[simp] theorem State.mapVdp_cycles (s : State) (f : Vdp → Vdp) : (s.mapVdp f).cycles = s.cycles := rfl
@[simp] theorem State.mapVdp_fault (s : State) (f : Vdp → Vdp) : (s.mapVdp f).fault = s.fault := rfl
@[simp] theorem State.mapVdp_cart (s : State) (f : Vdp → Vdp) : (s.mapVdp f).cart = s.cart := rfl
@[simp] theorem State.mapVdp_mem (s : State) (f : Vdp → Vdp) : (s.mapVdp f).mem = s.mem := rfl
@[simp] theorem State.mapVdp_vdp (s : State) (f : Vdp → Vdp) : (s.mapVdp f).vdp = f s.vdp := rfl
@[simp] theorem State.mapVdp_draws (s : State) (f : Vdp → Vdp) : (s.mapVdp f).draws = s.draws := rfl
@[simp] theorem State.mapVdp_params (s : State) (f : Vdp → Vdp) : (s.mapVdp f).params = s.params := rfl

/-! ### `State.write` -/

@[simp] theorem State.write_regs (s : State) (a : Word) (v : Byte) : (s.write a v).regs = s.regs := rfl
@[simp] theorem State.write_pc (s : State) (a : Word) (v : Byte) : (s.write a v).pc = s.pc := rfl
@[simp] theorem State.write_i (s : State) (a : Word) (v : Byte) : (s.write a v).i = s.i := rfl
@[simp] theorem State.write_r (s : State) (a : Word) (v : Byte) : (s.write a v).r = s.r := rfl
@[simp] theorem State.write_iff1 (s : State) (a : Word) (v : Byte) : (s.write a v).iff1 = s.iff1 := rfl
@[simp] theorem State.write_iff2 (s : State) (a : Word) (v : Byte) : (s.write a v).iff2 = s.iff2 := rfl
@[simp] theorem State.write_im (s : State) (a : Word) (v : Byte) : (s.write a v).im = s.im := rfl
@[simp] theorem State.write_halted (s : State) (a : Word) (v : Byte) : (s.write a v).halted = s.halted := rfl
@[simp] theorem State.write_eiShadow (s : State) (a : Word) (v : Byte) : (s.write a v).eiShadow = s.eiShadow := rfl
@[simp] theorem State.write_cycles (s : State) (a : Word) (v : Byte) : (s.write a v).cycles = s.cycles := rfl
@[simp] theorem State.write_fault (s : State) (a : Word) (v : Byte) : (s.write a v).fault = s.fault := rfl
@[simp] theorem State.write_cart (s : State) (a : Word) (v : Byte) : (s.write a v).cart = s.cart := rfl
@[simp] theorem State.write_mem (s : State) (a : Word) (v : Byte) : (s.write a v).mem = s.mem.write a v := rfl
@[simp] theorem State.write_vdp (s : State) (a : Word) (v : Byte) : (s.write a v).vdp = s.vdp := rfl
@[simp] theorem State.write_draws (s : State) (a : Word) (v : Byte) : (s.write a v).draws = s.draws := rfl
@[simp] theorem State.write_params (s : State) (a : Word) (v : Byte) : (s.write a v).params = s.params := rfl

/-! ### `State.write16` -/

@[simp] theorem State.write16_regs (s : State) (a w : Word) : (s.write16 a w).regs = s.regs := rfl
@[simp] theorem State.write16_pc (s : State) (a w : Word) : (s.write16 a w).pc = s.pc := rfl
@[simp] theorem State.write16_i (s : State) (a w : Word) : (s.write16 a w).i = s.i := rfl
@[simp] theorem State.write16_r (s : State) (a w : Word) : (s.write16 a w).r = s.r := rfl
@[simp] theorem State.write16_iff1 (s : State) (a w : Word) : (s.write16 a w).iff1 = s.iff1 := rfl
@[simp] theorem State.write16_iff2 (s : State) (a w : Word) : (s.write16 a w).iff2 = s.iff2 := rfl
@[simp] theorem State.write16_im (s : State) (a w : Word) : (s.write16 a w).im = s.im := rfl
@[simp] theorem State.write16_halted (s : State) (a w : Word) : (s.write16 a w).halted = s.halted := rfl
@[simp] theorem State.write16_eiShadow (s : State) (a w : Word) : (s.write16 a w).eiShadow = s.eiShadow := rfl
@[simp] theorem State.write16_cycles (s : State) (a w : Word) : (s.write16 a w).cycles = s.cycles := rfl
@[simp] theorem State.write16_fault (s : State) (a w : Word) : (s.write16 a w).fault = s.fault := rfl
@[simp] theorem State.write16_cart (s : State) (a w : Word) : (s.write16 a w).cart = s.cart := rfl
@[simp] theorem State.write16_mem (s : State) (a w : Word) :
    (s.write16 a w).mem = (s.mem.write a (lo w)).write (a + 1) (hi w) := rfl
@[simp] theorem State.write16_vdp (s : State) (a w : Word) : (s.write16 a w).vdp = s.vdp := rfl
@[simp] theorem State.write16_draws (s : State) (a w : Word) : (s.write16 a w).draws = s.draws := rfl
@[simp] theorem State.write16_params (s : State) (a w : Word) : (s.write16 a w).params = s.params := rfl

/-! ### `State.push16` -/

@[simp] theorem State.push16_regs (s : State) (w : Word) :
    (s.push16 w).regs = { s.regs with sp := s.regs.sp - 2 } := rfl
@[simp] theorem State.push16_pc (s : State) (w : Word) : (s.push16 w).pc = s.pc := rfl
@[simp] theorem State.push16_i (s : State) (w : Word) : (s.push16 w).i = s.i := rfl
@[simp] theorem State.push16_r (s : State) (w : Word) : (s.push16 w).r = s.r := rfl
@[simp] theorem State.push16_iff1 (s : State) (w : Word) : (s.push16 w).iff1 = s.iff1 := rfl
@[simp] theorem State.push16_iff2 (s : State) (w : Word) : (s.push16 w).iff2 = s.iff2 := rfl
@[simp] theorem State.push16_im (s : State) (w : Word) : (s.push16 w).im = s.im := rfl
@[simp] theorem State.push16_halted (s : State) (w : Word) : (s.push16 w).halted = s.halted := rfl
@[simp] theorem State.push16_eiShadow (s : State) (w : Word) : (s.push16 w).eiShadow = s.eiShadow := rfl
@[simp] theorem State.push16_cycles (s : State) (w : Word) : (s.push16 w).cycles = s.cycles := rfl
@[simp] theorem State.push16_fault (s : State) (w : Word) : (s.push16 w).fault = s.fault := rfl
@[simp] theorem State.push16_cart (s : State) (w : Word) : (s.push16 w).cart = s.cart := rfl
@[simp] theorem State.push16_mem (s : State) (w : Word) :
    (s.push16 w).mem = (s.mem.write (s.regs.sp - 1) (hi w)).write (s.regs.sp - 2) (lo w) := rfl
@[simp] theorem State.push16_vdp (s : State) (w : Word) : (s.push16 w).vdp = s.vdp := rfl
@[simp] theorem State.push16_draws (s : State) (w : Word) : (s.push16 w).draws = s.draws := rfl
@[simp] theorem State.push16_params (s : State) (w : Word) : (s.push16 w).params = s.params := rfl

/-! ### `State.popped` -/

@[simp] theorem State.popped_regs (s : State) : (s.popped).regs = { s.regs with sp := s.regs.sp + 2 } := rfl
@[simp] theorem State.popped_pc (s : State) : (s.popped).pc = s.pc := rfl
@[simp] theorem State.popped_i (s : State) : (s.popped).i = s.i := rfl
@[simp] theorem State.popped_r (s : State) : (s.popped).r = s.r := rfl
@[simp] theorem State.popped_iff1 (s : State) : (s.popped).iff1 = s.iff1 := rfl
@[simp] theorem State.popped_iff2 (s : State) : (s.popped).iff2 = s.iff2 := rfl
@[simp] theorem State.popped_im (s : State) : (s.popped).im = s.im := rfl
@[simp] theorem State.popped_halted (s : State) : (s.popped).halted = s.halted := rfl
@[simp] theorem State.popped_eiShadow (s : State) : (s.popped).eiShadow = s.eiShadow := rfl
@[simp] theorem State.popped_cycles (s : State) : (s.popped).cycles = s.cycles := rfl
@[simp] theorem State.popped_fault (s : State) : (s.popped).fault = s.fault := rfl
@[simp] theorem State.popped_cart (s : State) : (s.popped).cart = s.cart := rfl
@[simp] theorem State.popped_mem (s : State) : (s.popped).mem = s.mem := rfl
@[simp] theorem State.popped_vdp (s : State) : (s.popped).vdp = s.vdp := rfl
@[simp] theorem State.popped_draws (s : State) : (s.popped).draws = s.draws := rfl
@[simp] theorem State.popped_params (s : State) : (s.popped).params = s.params := rfl

/-! ### `State.drew` -/

@[simp] theorem State.drew_regs (s : State) : (s.drew).regs = s.regs := rfl
@[simp] theorem State.drew_pc (s : State) : (s.drew).pc = s.pc := rfl
@[simp] theorem State.drew_i (s : State) : (s.drew).i = s.i := rfl
@[simp] theorem State.drew_r (s : State) : (s.drew).r = s.r := rfl
@[simp] theorem State.drew_iff1 (s : State) : (s.drew).iff1 = s.iff1 := rfl
@[simp] theorem State.drew_iff2 (s : State) : (s.drew).iff2 = s.iff2 := rfl
@[simp] theorem State.drew_im (s : State) : (s.drew).im = s.im := rfl
@[simp] theorem State.drew_halted (s : State) : (s.drew).halted = s.halted := rfl
@[simp] theorem State.drew_eiShadow (s : State) : (s.drew).eiShadow = s.eiShadow := rfl
@[simp] theorem State.drew_cycles (s : State) : (s.drew).cycles = s.cycles := rfl
@[simp] theorem State.drew_fault (s : State) : (s.drew).fault = s.fault := rfl
@[simp] theorem State.drew_cart (s : State) : (s.drew).cart = s.cart := rfl
@[simp] theorem State.drew_mem (s : State) : (s.drew).mem = s.mem := rfl
@[simp] theorem State.drew_vdp (s : State) : (s.drew).vdp = s.vdp := rfl
@[simp] theorem State.drew_draws (s : State) : (s.drew).draws = s.draws + 1 := rfl
@[simp] theorem State.drew_params (s : State) : (s.drew).params = s.params := rfl

/-! ### `State.writeF` -/

@[simp] theorem State.writeF_regs (s : State) (exact free known : Byte) :
    (s.writeF exact free known).regs = { s.regs with f := mergeF exact free s.regs.f known s.drawn } := rfl
@[simp] theorem State.writeF_pc (s : State) (exact free known : Byte) : (s.writeF exact free known).pc = s.pc := rfl
@[simp] theorem State.writeF_i (s : State) (exact free known : Byte) : (s.writeF exact free known).i = s.i := rfl
@[simp] theorem State.writeF_r (s : State) (exact free known : Byte) : (s.writeF exact free known).r = s.r := rfl
@[simp] theorem State.writeF_iff1 (s : State) (exact free known : Byte) :
    (s.writeF exact free known).iff1 = s.iff1 := rfl
@[simp] theorem State.writeF_iff2 (s : State) (exact free known : Byte) :
    (s.writeF exact free known).iff2 = s.iff2 := rfl
@[simp] theorem State.writeF_im (s : State) (exact free known : Byte) : (s.writeF exact free known).im = s.im := rfl
@[simp] theorem State.writeF_halted (s : State) (exact free known : Byte) :
    (s.writeF exact free known).halted = s.halted := rfl
@[simp] theorem State.writeF_eiShadow (s : State) (exact free known : Byte) :
    (s.writeF exact free known).eiShadow = s.eiShadow := rfl
@[simp] theorem State.writeF_cycles (s : State) (exact free known : Byte) :
    (s.writeF exact free known).cycles = s.cycles := rfl
@[simp] theorem State.writeF_fault (s : State) (exact free known : Byte) :
    (s.writeF exact free known).fault = s.fault := rfl
@[simp] theorem State.writeF_cart (s : State) (exact free known : Byte) :
    (s.writeF exact free known).cart = s.cart := rfl
@[simp] theorem State.writeF_mem (s : State) (exact free known : Byte) :
    (s.writeF exact free known).mem = s.mem := rfl
@[simp] theorem State.writeF_vdp (s : State) (exact free known : Byte) :
    (s.writeF exact free known).vdp = s.vdp := rfl
@[simp] theorem State.writeF_draws (s : State) (exact free known : Byte) :
    (s.writeF exact free known).draws = s.draws + 1 := rfl
@[simp] theorem State.writeF_params (s : State) (exact free known : Byte) :
    (s.writeF exact free known).params = s.params := rfl

/-! ### `State.tick` -/

@[simp] theorem State.tick_regs (s : State) (n : Nat) : (s.tick n).regs = s.regs := rfl
@[simp] theorem State.tick_pc (s : State) (n : Nat) : (s.tick n).pc = s.pc := rfl
@[simp] theorem State.tick_i (s : State) (n : Nat) : (s.tick n).i = s.i := rfl
@[simp] theorem State.tick_r (s : State) (n : Nat) : (s.tick n).r = s.r := rfl
@[simp] theorem State.tick_iff1 (s : State) (n : Nat) : (s.tick n).iff1 = s.iff1 := rfl
@[simp] theorem State.tick_iff2 (s : State) (n : Nat) : (s.tick n).iff2 = s.iff2 := rfl
@[simp] theorem State.tick_im (s : State) (n : Nat) : (s.tick n).im = s.im := rfl
@[simp] theorem State.tick_halted (s : State) (n : Nat) : (s.tick n).halted = s.halted := rfl
@[simp] theorem State.tick_eiShadow (s : State) (n : Nat) : (s.tick n).eiShadow = s.eiShadow := rfl
@[simp] theorem State.tick_cycles (s : State) (n : Nat) : (s.tick n).cycles = s.cycles + n := rfl
@[simp] theorem State.tick_fault (s : State) (n : Nat) : (s.tick n).fault = s.fault := rfl
@[simp] theorem State.tick_cart (s : State) (n : Nat) : (s.tick n).cart = s.cart := rfl
@[simp] theorem State.tick_mem (s : State) (n : Nat) : (s.tick n).mem = s.mem := rfl
@[simp] theorem State.tick_vdp (s : State) (n : Nat) : (s.tick n).vdp = s.vdp := rfl
@[simp] theorem State.tick_draws (s : State) (n : Nat) : (s.tick n).draws = s.draws := rfl
@[simp] theorem State.tick_params (s : State) (n : Nat) : (s.tick n).params = s.params := rfl

/-! ### `State.fetched` -/

@[simp] theorem State.fetched_regs (s : State) (len m1 : Nat) : (s.fetched len m1).regs = s.regs := rfl
@[simp] theorem State.fetched_pc (s : State) (len m1 : Nat) :
    (s.fetched len m1).pc = s.pc + BitVec.ofNat 16 len := rfl
@[simp] theorem State.fetched_i (s : State) (len m1 : Nat) : (s.fetched len m1).i = s.i := rfl
@[simp] theorem State.fetched_r (s : State) (len m1 : Nat) : (s.fetched len m1).r = countR s.r m1 := rfl
@[simp] theorem State.fetched_iff1 (s : State) (len m1 : Nat) : (s.fetched len m1).iff1 = s.iff1 := rfl
@[simp] theorem State.fetched_iff2 (s : State) (len m1 : Nat) : (s.fetched len m1).iff2 = s.iff2 := rfl
@[simp] theorem State.fetched_im (s : State) (len m1 : Nat) : (s.fetched len m1).im = s.im := rfl
@[simp] theorem State.fetched_halted (s : State) (len m1 : Nat) : (s.fetched len m1).halted = s.halted := rfl
@[simp] theorem State.fetched_eiShadow (s : State) (len m1 : Nat) : (s.fetched len m1).eiShadow = s.eiShadow := rfl
@[simp] theorem State.fetched_cycles (s : State) (len m1 : Nat) : (s.fetched len m1).cycles = s.cycles := rfl
@[simp] theorem State.fetched_fault (s : State) (len m1 : Nat) : (s.fetched len m1).fault = s.fault := rfl
@[simp] theorem State.fetched_cart (s : State) (len m1 : Nat) : (s.fetched len m1).cart = s.cart := rfl
@[simp] theorem State.fetched_mem (s : State) (len m1 : Nat) : (s.fetched len m1).mem = s.mem := rfl
@[simp] theorem State.fetched_vdp (s : State) (len m1 : Nat) : (s.fetched len m1).vdp = s.vdp := rfl
@[simp] theorem State.fetched_draws (s : State) (len m1 : Nat) : (s.fetched len m1).draws = s.draws := rfl
@[simp] theorem State.fetched_params (s : State) (len m1 : Nat) : (s.fetched len m1).params = s.params := rfl

/-! ### `State.jumpTo` -/

@[simp] theorem State.jumpTo_regs (s : State) (w : Word) : (s.jumpTo w).regs = s.regs := rfl
@[simp] theorem State.jumpTo_pc (s : State) (w : Word) : (s.jumpTo w).pc = w := rfl
@[simp] theorem State.jumpTo_i (s : State) (w : Word) : (s.jumpTo w).i = s.i := rfl
@[simp] theorem State.jumpTo_r (s : State) (w : Word) : (s.jumpTo w).r = s.r := rfl
@[simp] theorem State.jumpTo_iff1 (s : State) (w : Word) : (s.jumpTo w).iff1 = s.iff1 := rfl
@[simp] theorem State.jumpTo_iff2 (s : State) (w : Word) : (s.jumpTo w).iff2 = s.iff2 := rfl
@[simp] theorem State.jumpTo_im (s : State) (w : Word) : (s.jumpTo w).im = s.im := rfl
@[simp] theorem State.jumpTo_halted (s : State) (w : Word) : (s.jumpTo w).halted = s.halted := rfl
@[simp] theorem State.jumpTo_eiShadow (s : State) (w : Word) : (s.jumpTo w).eiShadow = s.eiShadow := rfl
@[simp] theorem State.jumpTo_cycles (s : State) (w : Word) : (s.jumpTo w).cycles = s.cycles := rfl
@[simp] theorem State.jumpTo_fault (s : State) (w : Word) : (s.jumpTo w).fault = s.fault := rfl
@[simp] theorem State.jumpTo_cart (s : State) (w : Word) : (s.jumpTo w).cart = s.cart := rfl
@[simp] theorem State.jumpTo_mem (s : State) (w : Word) : (s.jumpTo w).mem = s.mem := rfl
@[simp] theorem State.jumpTo_vdp (s : State) (w : Word) : (s.jumpTo w).vdp = s.vdp := rfl
@[simp] theorem State.jumpTo_draws (s : State) (w : Word) : (s.jumpTo w).draws = s.draws := rfl
@[simp] theorem State.jumpTo_params (s : State) (w : Word) : (s.jumpTo w).params = s.params := rfl

/-! ### `State.relative` -/

@[simp] theorem State.relative_regs (s : State) (e : Byte) : (s.relative e).regs = s.regs := rfl
@[simp] theorem State.relative_pc (s : State) (e : Byte) : (s.relative e).pc = s.pc + sext8 e := rfl
@[simp] theorem State.relative_i (s : State) (e : Byte) : (s.relative e).i = s.i := rfl
@[simp] theorem State.relative_r (s : State) (e : Byte) : (s.relative e).r = s.r := rfl
@[simp] theorem State.relative_iff1 (s : State) (e : Byte) : (s.relative e).iff1 = s.iff1 := rfl
@[simp] theorem State.relative_iff2 (s : State) (e : Byte) : (s.relative e).iff2 = s.iff2 := rfl
@[simp] theorem State.relative_im (s : State) (e : Byte) : (s.relative e).im = s.im := rfl
@[simp] theorem State.relative_halted (s : State) (e : Byte) : (s.relative e).halted = s.halted := rfl
@[simp] theorem State.relative_eiShadow (s : State) (e : Byte) : (s.relative e).eiShadow = s.eiShadow := rfl
@[simp] theorem State.relative_cycles (s : State) (e : Byte) : (s.relative e).cycles = s.cycles := rfl
@[simp] theorem State.relative_fault (s : State) (e : Byte) : (s.relative e).fault = s.fault := rfl
@[simp] theorem State.relative_cart (s : State) (e : Byte) : (s.relative e).cart = s.cart := rfl
@[simp] theorem State.relative_mem (s : State) (e : Byte) : (s.relative e).mem = s.mem := rfl
@[simp] theorem State.relative_vdp (s : State) (e : Byte) : (s.relative e).vdp = s.vdp := rfl
@[simp] theorem State.relative_draws (s : State) (e : Byte) : (s.relative e).draws = s.draws := rfl
@[simp] theorem State.relative_params (s : State) (e : Byte) : (s.relative e).params = s.params := rfl

/-! ### `State.returnFromInterrupt` -/

@[simp] theorem State.returnFromInterrupt_regs (s : State) :
    (s.returnFromInterrupt).regs = { s.regs with sp := s.regs.sp + 2 } := rfl
@[simp] theorem State.returnFromInterrupt_pc (s : State) : (s.returnFromInterrupt).pc = s.popValue := rfl
@[simp] theorem State.returnFromInterrupt_i (s : State) : (s.returnFromInterrupt).i = s.i := rfl
@[simp] theorem State.returnFromInterrupt_r (s : State) : (s.returnFromInterrupt).r = s.r := rfl
@[simp] theorem State.returnFromInterrupt_iff1 (s : State) : (s.returnFromInterrupt).iff1 = s.iff2 := rfl
@[simp] theorem State.returnFromInterrupt_iff2 (s : State) : (s.returnFromInterrupt).iff2 = s.iff2 := rfl
@[simp] theorem State.returnFromInterrupt_im (s : State) : (s.returnFromInterrupt).im = s.im := rfl
@[simp] theorem State.returnFromInterrupt_halted (s : State) : (s.returnFromInterrupt).halted = s.halted := rfl
@[simp] theorem State.returnFromInterrupt_eiShadow (s : State) : (s.returnFromInterrupt).eiShadow = s.eiShadow := rfl
@[simp] theorem State.returnFromInterrupt_cycles (s : State) : (s.returnFromInterrupt).cycles = s.cycles := rfl
@[simp] theorem State.returnFromInterrupt_fault (s : State) : (s.returnFromInterrupt).fault = s.fault := rfl
@[simp] theorem State.returnFromInterrupt_cart (s : State) : (s.returnFromInterrupt).cart = s.cart := rfl
@[simp] theorem State.returnFromInterrupt_mem (s : State) : (s.returnFromInterrupt).mem = s.mem := rfl
@[simp] theorem State.returnFromInterrupt_vdp (s : State) : (s.returnFromInterrupt).vdp = s.vdp := rfl
@[simp] theorem State.returnFromInterrupt_draws (s : State) : (s.returnFromInterrupt).draws = s.draws := rfl
@[simp] theorem State.returnFromInterrupt_params (s : State) : (s.returnFromInterrupt).params = s.params := rfl

/-! ### `State.raise` -/

@[simp] theorem State.raise_regs (s : State) (x : Fault) : (s.raise x).regs = s.regs := rfl
@[simp] theorem State.raise_pc (s : State) (x : Fault) : (s.raise x).pc = s.pc := rfl
@[simp] theorem State.raise_i (s : State) (x : Fault) : (s.raise x).i = s.i := rfl
@[simp] theorem State.raise_r (s : State) (x : Fault) : (s.raise x).r = s.r := rfl
@[simp] theorem State.raise_iff1 (s : State) (x : Fault) : (s.raise x).iff1 = s.iff1 := rfl
@[simp] theorem State.raise_iff2 (s : State) (x : Fault) : (s.raise x).iff2 = s.iff2 := rfl
@[simp] theorem State.raise_im (s : State) (x : Fault) : (s.raise x).im = s.im := rfl
@[simp] theorem State.raise_halted (s : State) (x : Fault) : (s.raise x).halted = s.halted := rfl
@[simp] theorem State.raise_eiShadow (s : State) (x : Fault) : (s.raise x).eiShadow = s.eiShadow := rfl
@[simp] theorem State.raise_cycles (s : State) (x : Fault) : (s.raise x).cycles = s.cycles := rfl
@[simp] theorem State.raise_fault (s : State) (x : Fault) : (s.raise x).fault = some x := rfl
@[simp] theorem State.raise_cart (s : State) (x : Fault) : (s.raise x).cart = s.cart := rfl
@[simp] theorem State.raise_mem (s : State) (x : Fault) : (s.raise x).mem = s.mem := rfl
@[simp] theorem State.raise_vdp (s : State) (x : Fault) : (s.raise x).vdp = s.vdp := rfl
@[simp] theorem State.raise_draws (s : State) (x : Fault) : (s.raise x).draws = s.draws := rfl
@[simp] theorem State.raise_params (s : State) (x : Fault) : (s.raise x).params = s.params := rfl

/-! ### `State.haltedStep` -/

@[simp] theorem State.haltedStep_regs (s : State) : (s.haltedStep).regs = s.regs := rfl
@[simp] theorem State.haltedStep_pc (s : State) : (s.haltedStep).pc = s.pc := rfl
@[simp] theorem State.haltedStep_i (s : State) : (s.haltedStep).i = s.i := rfl
@[simp] theorem State.haltedStep_r (s : State) : (s.haltedStep).r = countR s.r 1 := rfl
@[simp] theorem State.haltedStep_iff1 (s : State) : (s.haltedStep).iff1 = s.iff1 := rfl
@[simp] theorem State.haltedStep_iff2 (s : State) : (s.haltedStep).iff2 = s.iff2 := rfl
@[simp] theorem State.haltedStep_im (s : State) : (s.haltedStep).im = s.im := rfl
@[simp] theorem State.haltedStep_halted (s : State) : (s.haltedStep).halted = s.halted := rfl
@[simp] theorem State.haltedStep_eiShadow (s : State) : (s.haltedStep).eiShadow = s.eiShadow := rfl
@[simp] theorem State.haltedStep_cycles (s : State) : (s.haltedStep).cycles = s.cycles + 4 := rfl
@[simp] theorem State.haltedStep_fault (s : State) : (s.haltedStep).fault = s.fault := rfl
@[simp] theorem State.haltedStep_cart (s : State) : (s.haltedStep).cart = s.cart := rfl
@[simp] theorem State.haltedStep_mem (s : State) : (s.haltedStep).mem = s.mem := rfl
@[simp] theorem State.haltedStep_vdp (s : State) : (s.haltedStep).vdp = s.vdp := rfl
@[simp] theorem State.haltedStep_draws (s : State) : (s.haltedStep).draws = s.draws := rfl
@[simp] theorem State.haltedStep_params (s : State) : (s.haltedStep).params = s.params := rfl

/-! ### `State.polled` -/

@[simp] theorem State.polled_regs (s : State) : (s.polled).regs = s.regs := rfl
@[simp] theorem State.polled_pc (s : State) : (s.polled).pc = s.pc := rfl
@[simp] theorem State.polled_i (s : State) : (s.polled).i = s.i := rfl
@[simp] theorem State.polled_r (s : State) : (s.polled).r = s.r := rfl
@[simp] theorem State.polled_iff1 (s : State) : (s.polled).iff1 = s.iff1 := rfl
@[simp] theorem State.polled_iff2 (s : State) : (s.polled).iff2 = s.iff2 := rfl
@[simp] theorem State.polled_im (s : State) : (s.polled).im = s.im := rfl
@[simp] theorem State.polled_halted (s : State) : (s.polled).halted = s.halted := rfl
@[simp] theorem State.polled_eiShadow (s : State) : (s.polled).eiShadow = false := rfl
@[simp] theorem State.polled_cycles (s : State) : (s.polled).cycles = s.cycles := rfl
@[simp] theorem State.polled_fault (s : State) : (s.polled).fault = s.fault := rfl
@[simp] theorem State.polled_cart (s : State) : (s.polled).cart = s.cart := rfl
@[simp] theorem State.polled_mem (s : State) : (s.polled).mem = s.mem := rfl
@[simp] theorem State.polled_vdp (s : State) : (s.polled).vdp = s.vdp.update s.params s.cycles := rfl
@[simp] theorem State.polled_draws (s : State) : (s.polled).draws = s.draws := rfl
@[simp] theorem State.polled_params (s : State) : (s.polled).params = s.params := rfl

/-! ### `State.acceptIM1` -/

@[simp] theorem State.acceptIM1_regs (s : State) : (s.acceptIM1).regs = { s.regs with sp := s.regs.sp - 2 } := rfl
@[simp] theorem State.acceptIM1_pc (s : State) : (s.acceptIM1).pc = 0x0038 := rfl
@[simp] theorem State.acceptIM1_i (s : State) : (s.acceptIM1).i = s.i := rfl
@[simp] theorem State.acceptIM1_r (s : State) : (s.acceptIM1).r = countR s.r 1 := rfl
@[simp] theorem State.acceptIM1_iff1 (s : State) : (s.acceptIM1).iff1 = false := rfl
@[simp] theorem State.acceptIM1_iff2 (s : State) : (s.acceptIM1).iff2 = false := rfl
@[simp] theorem State.acceptIM1_im (s : State) : (s.acceptIM1).im = s.im := rfl
@[simp] theorem State.acceptIM1_halted (s : State) : (s.acceptIM1).halted = false := rfl
@[simp] theorem State.acceptIM1_eiShadow (s : State) : (s.acceptIM1).eiShadow = s.eiShadow := rfl
@[simp] theorem State.acceptIM1_cycles (s : State) : (s.acceptIM1).cycles = s.cycles + s.params.im1AckCycles := rfl
@[simp] theorem State.acceptIM1_fault (s : State) : (s.acceptIM1).fault = s.fault := rfl
@[simp] theorem State.acceptIM1_cart (s : State) : (s.acceptIM1).cart = s.cart := rfl
@[simp] theorem State.acceptIM1_mem (s : State) :
    (s.acceptIM1).mem = (s.mem.write (s.regs.sp - 1) (hi s.pc)).write (s.regs.sp - 2) (lo s.pc) := rfl
@[simp] theorem State.acceptIM1_vdp (s : State) : (s.acceptIM1).vdp = s.vdp.acknowledge := rfl
@[simp] theorem State.acceptIM1_draws (s : State) : (s.acceptIM1).draws = s.draws := rfl
@[simp] theorem State.acceptIM1_params (s : State) : (s.acceptIM1).params = s.params := rfl

/-! ### `Regs` -/

@[simp] theorem Regs.setAF_a (g : Regs) (w : Word) : (g.setAF w).a = hi w := rfl
@[simp] theorem Regs.setAF_f (g : Regs) (w : Word) : (g.setAF w).f = lo w := rfl
@[simp] theorem Regs.setAF_b (g : Regs) (w : Word) : (g.setAF w).b = g.b := rfl
@[simp] theorem Regs.setAF_c (g : Regs) (w : Word) : (g.setAF w).c = g.c := rfl
@[simp] theorem Regs.setAF_d (g : Regs) (w : Word) : (g.setAF w).d = g.d := rfl
@[simp] theorem Regs.setAF_e (g : Regs) (w : Word) : (g.setAF w).e = g.e := rfl
@[simp] theorem Regs.setAF_h (g : Regs) (w : Word) : (g.setAF w).h = g.h := rfl
@[simp] theorem Regs.setAF_l (g : Regs) (w : Word) : (g.setAF w).l = g.l := rfl
@[simp] theorem Regs.setAF_afShadow (g : Regs) (w : Word) : (g.setAF w).afShadow = g.afShadow := rfl
@[simp] theorem Regs.setAF_bcShadow (g : Regs) (w : Word) : (g.setAF w).bcShadow = g.bcShadow := rfl
@[simp] theorem Regs.setAF_deShadow (g : Regs) (w : Word) : (g.setAF w).deShadow = g.deShadow := rfl
@[simp] theorem Regs.setAF_hlShadow (g : Regs) (w : Word) : (g.setAF w).hlShadow = g.hlShadow := rfl
@[simp] theorem Regs.setAF_ix (g : Regs) (w : Word) : (g.setAF w).ix = g.ix := rfl
@[simp] theorem Regs.setAF_iy (g : Regs) (w : Word) : (g.setAF w).iy = g.iy := rfl
@[simp] theorem Regs.setAF_sp (g : Regs) (w : Word) : (g.setAF w).sp = g.sp := rfl
@[simp] theorem Regs.setBC_a (g : Regs) (w : Word) : (g.setBC w).a = g.a := rfl
@[simp] theorem Regs.setBC_f (g : Regs) (w : Word) : (g.setBC w).f = g.f := rfl
@[simp] theorem Regs.setBC_b (g : Regs) (w : Word) : (g.setBC w).b = hi w := rfl
@[simp] theorem Regs.setBC_c (g : Regs) (w : Word) : (g.setBC w).c = lo w := rfl
@[simp] theorem Regs.setBC_d (g : Regs) (w : Word) : (g.setBC w).d = g.d := rfl
@[simp] theorem Regs.setBC_e (g : Regs) (w : Word) : (g.setBC w).e = g.e := rfl
@[simp] theorem Regs.setBC_h (g : Regs) (w : Word) : (g.setBC w).h = g.h := rfl
@[simp] theorem Regs.setBC_l (g : Regs) (w : Word) : (g.setBC w).l = g.l := rfl
@[simp] theorem Regs.setBC_afShadow (g : Regs) (w : Word) : (g.setBC w).afShadow = g.afShadow := rfl
@[simp] theorem Regs.setBC_bcShadow (g : Regs) (w : Word) : (g.setBC w).bcShadow = g.bcShadow := rfl
@[simp] theorem Regs.setBC_deShadow (g : Regs) (w : Word) : (g.setBC w).deShadow = g.deShadow := rfl
@[simp] theorem Regs.setBC_hlShadow (g : Regs) (w : Word) : (g.setBC w).hlShadow = g.hlShadow := rfl
@[simp] theorem Regs.setBC_ix (g : Regs) (w : Word) : (g.setBC w).ix = g.ix := rfl
@[simp] theorem Regs.setBC_iy (g : Regs) (w : Word) : (g.setBC w).iy = g.iy := rfl
@[simp] theorem Regs.setBC_sp (g : Regs) (w : Word) : (g.setBC w).sp = g.sp := rfl
@[simp] theorem Regs.setDE_a (g : Regs) (w : Word) : (g.setDE w).a = g.a := rfl
@[simp] theorem Regs.setDE_f (g : Regs) (w : Word) : (g.setDE w).f = g.f := rfl
@[simp] theorem Regs.setDE_b (g : Regs) (w : Word) : (g.setDE w).b = g.b := rfl
@[simp] theorem Regs.setDE_c (g : Regs) (w : Word) : (g.setDE w).c = g.c := rfl
@[simp] theorem Regs.setDE_d (g : Regs) (w : Word) : (g.setDE w).d = hi w := rfl
@[simp] theorem Regs.setDE_e (g : Regs) (w : Word) : (g.setDE w).e = lo w := rfl
@[simp] theorem Regs.setDE_h (g : Regs) (w : Word) : (g.setDE w).h = g.h := rfl
@[simp] theorem Regs.setDE_l (g : Regs) (w : Word) : (g.setDE w).l = g.l := rfl
@[simp] theorem Regs.setDE_afShadow (g : Regs) (w : Word) : (g.setDE w).afShadow = g.afShadow := rfl
@[simp] theorem Regs.setDE_bcShadow (g : Regs) (w : Word) : (g.setDE w).bcShadow = g.bcShadow := rfl
@[simp] theorem Regs.setDE_deShadow (g : Regs) (w : Word) : (g.setDE w).deShadow = g.deShadow := rfl
@[simp] theorem Regs.setDE_hlShadow (g : Regs) (w : Word) : (g.setDE w).hlShadow = g.hlShadow := rfl
@[simp] theorem Regs.setDE_ix (g : Regs) (w : Word) : (g.setDE w).ix = g.ix := rfl
@[simp] theorem Regs.setDE_iy (g : Regs) (w : Word) : (g.setDE w).iy = g.iy := rfl
@[simp] theorem Regs.setDE_sp (g : Regs) (w : Word) : (g.setDE w).sp = g.sp := rfl
@[simp] theorem Regs.setHL_a (g : Regs) (w : Word) : (g.setHL w).a = g.a := rfl
@[simp] theorem Regs.setHL_f (g : Regs) (w : Word) : (g.setHL w).f = g.f := rfl
@[simp] theorem Regs.setHL_b (g : Regs) (w : Word) : (g.setHL w).b = g.b := rfl
@[simp] theorem Regs.setHL_c (g : Regs) (w : Word) : (g.setHL w).c = g.c := rfl
@[simp] theorem Regs.setHL_d (g : Regs) (w : Word) : (g.setHL w).d = g.d := rfl
@[simp] theorem Regs.setHL_e (g : Regs) (w : Word) : (g.setHL w).e = g.e := rfl
@[simp] theorem Regs.setHL_h (g : Regs) (w : Word) : (g.setHL w).h = hi w := rfl
@[simp] theorem Regs.setHL_l (g : Regs) (w : Word) : (g.setHL w).l = lo w := rfl
@[simp] theorem Regs.setHL_afShadow (g : Regs) (w : Word) : (g.setHL w).afShadow = g.afShadow := rfl
@[simp] theorem Regs.setHL_bcShadow (g : Regs) (w : Word) : (g.setHL w).bcShadow = g.bcShadow := rfl
@[simp] theorem Regs.setHL_deShadow (g : Regs) (w : Word) : (g.setHL w).deShadow = g.deShadow := rfl
@[simp] theorem Regs.setHL_hlShadow (g : Regs) (w : Word) : (g.setHL w).hlShadow = g.hlShadow := rfl
@[simp] theorem Regs.setHL_ix (g : Regs) (w : Word) : (g.setHL w).ix = g.ix := rfl
@[simp] theorem Regs.setHL_iy (g : Regs) (w : Word) : (g.setHL w).iy = g.iy := rfl
@[simp] theorem Regs.setHL_sp (g : Regs) (w : Word) : (g.setHL w).sp = g.sp := rfl
@[simp] theorem Regs.set_f (g : Regs) (r : R8) (v : Byte) : (g.set r v).f = g.f := by cases r <;> rfl
@[simp] theorem Regs.set_afShadow (g : Regs) (r : R8) (v : Byte) : (g.set r v).afShadow = g.afShadow := by cases r <;> rfl
@[simp] theorem Regs.set_bcShadow (g : Regs) (r : R8) (v : Byte) : (g.set r v).bcShadow = g.bcShadow := by cases r <;> rfl
@[simp] theorem Regs.set_deShadow (g : Regs) (r : R8) (v : Byte) : (g.set r v).deShadow = g.deShadow := by cases r <;> rfl
@[simp] theorem Regs.set_hlShadow (g : Regs) (r : R8) (v : Byte) : (g.set r v).hlShadow = g.hlShadow := by cases r <;> rfl
@[simp] theorem Regs.set_ix (g : Regs) (r : R8) (v : Byte) : (g.set r v).ix = g.ix := by cases r <;> rfl
@[simp] theorem Regs.set_iy (g : Regs) (r : R8) (v : Byte) : (g.set r v).iy = g.iy := by cases r <;> rfl
@[simp] theorem Regs.set_sp (g : Regs) (r : R8) (v : Byte) : (g.set r v).sp = g.sp := by cases r <;> rfl
@[simp] theorem Regs.setPair_a (g : Regs) (p : Pair) (w : Word) : (g.setPair p w).a = g.a := by cases p <;> rfl
@[simp] theorem Regs.setPair_f (g : Regs) (p : Pair) (w : Word) : (g.setPair p w).f = g.f := by cases p <;> rfl
@[simp] theorem Regs.setPair_afShadow (g : Regs) (p : Pair) (w : Word) : (g.setPair p w).afShadow = g.afShadow := by cases p <;> rfl
@[simp] theorem Regs.setPair_bcShadow (g : Regs) (p : Pair) (w : Word) : (g.setPair p w).bcShadow = g.bcShadow := by cases p <;> rfl
@[simp] theorem Regs.setPair_deShadow (g : Regs) (p : Pair) (w : Word) : (g.setPair p w).deShadow = g.deShadow := by cases p <;> rfl
@[simp] theorem Regs.setPair_hlShadow (g : Regs) (p : Pair) (w : Word) : (g.setPair p w).hlShadow = g.hlShadow := by cases p <;> rfl
@[simp] theorem Regs.setPair_ix (g : Regs) (p : Pair) (w : Word) : (g.setPair p w).ix = g.ix := by cases p <;> rfl
@[simp] theorem Regs.setPair_iy (g : Regs) (p : Pair) (w : Word) : (g.setPair p w).iy = g.iy := by cases p <;> rfl
@[simp] theorem Regs.setIdx_a (g : Regs) (x : Idx) (w : Word) : (g.setIdx x w).a = g.a := by cases x <;> rfl
@[simp] theorem Regs.setIdx_f (g : Regs) (x : Idx) (w : Word) : (g.setIdx x w).f = g.f := by cases x <;> rfl
@[simp] theorem Regs.setIdx_b (g : Regs) (x : Idx) (w : Word) : (g.setIdx x w).b = g.b := by cases x <;> rfl
@[simp] theorem Regs.setIdx_c (g : Regs) (x : Idx) (w : Word) : (g.setIdx x w).c = g.c := by cases x <;> rfl
@[simp] theorem Regs.setIdx_d (g : Regs) (x : Idx) (w : Word) : (g.setIdx x w).d = g.d := by cases x <;> rfl
@[simp] theorem Regs.setIdx_e (g : Regs) (x : Idx) (w : Word) : (g.setIdx x w).e = g.e := by cases x <;> rfl
@[simp] theorem Regs.setIdx_h (g : Regs) (x : Idx) (w : Word) : (g.setIdx x w).h = g.h := by cases x <;> rfl
@[simp] theorem Regs.setIdx_l (g : Regs) (x : Idx) (w : Word) : (g.setIdx x w).l = g.l := by cases x <;> rfl
@[simp] theorem Regs.setIdx_afShadow (g : Regs) (x : Idx) (w : Word) : (g.setIdx x w).afShadow = g.afShadow := by cases x <;> rfl
@[simp] theorem Regs.setIdx_bcShadow (g : Regs) (x : Idx) (w : Word) : (g.setIdx x w).bcShadow = g.bcShadow := by cases x <;> rfl
@[simp] theorem Regs.setIdx_deShadow (g : Regs) (x : Idx) (w : Word) : (g.setIdx x w).deShadow = g.deShadow := by cases x <;> rfl
@[simp] theorem Regs.setIdx_hlShadow (g : Regs) (x : Idx) (w : Word) : (g.setIdx x w).hlShadow = g.hlShadow := by cases x <;> rfl
@[simp] theorem Regs.setIdx_sp (g : Regs) (x : Idx) (w : Word) : (g.setIdx x w).sp = g.sp := by cases x <;> rfl

@[simp] theorem Regs.get_set_same (g : Regs) (r : R8) (v : Byte) : (g.set r v).get r = v := by cases r <;> rfl

theorem Regs.get_set_other (g : Regs) {r q : R8} (v : Byte) (h : q ≠ r) : (g.set r v).get q = g.get q := by
  cases r <;> cases q <;> first | rfl | exact absurd rfl h

@[simp] theorem Regs.getIdx_setIdx (g : Regs) (x : Idx) (w : Word) : (g.setIdx x w).getIdx x = w := by cases x <;> rfl

end Sys2Proof.Machine
end

