-- ==== Sys2Proof/Laws/Exec.lean ====
section
/-! SUPPORT. `exec` by operation: what `exec` does with an instruction is the operation of its rule; every instruction
completes; and what every instruction keeps. -/

namespace Sys2Proof.Machine

/-- The operation of each rule. -/
def Op.run : Op → State → Result
  | .ldRegReg r r' => Sys2Proof.Machine.ldRegReg r r'
  | .ldRegImm r n => Sys2Proof.Machine.ldRegImm r n
  | .ldRegHL r => Sys2Proof.Machine.ldRegHL r
  | .ldHLReg r => Sys2Proof.Machine.ldHLReg r
  | .ldHLImm n => Sys2Proof.Machine.ldHLImm n
  | .ldRegIdx r x d => Sys2Proof.Machine.ldRegIdx r x d
  | .ldIdxReg x d r => Sys2Proof.Machine.ldIdxReg x d r
  | .ldIdxNum x d n => Sys2Proof.Machine.ldIdxNum x d n
  | .ldABC => Sys2Proof.Machine.ldABC
  | .ldADE => Sys2Proof.Machine.ldADE
  | .ldBCA => Sys2Proof.Machine.ldBCA
  | .ldDEA => Sys2Proof.Machine.ldDEA
  | .ldAMem nn => Sys2Proof.Machine.ldAMem nn
  | .ldMemA nn => Sys2Proof.Machine.ldMemA nn
  | .ldAI => Sys2Proof.Machine.ldAI
  | .ldAR => Sys2Proof.Machine.ldAR
  | .ldIA => Sys2Proof.Machine.ldIA
  | .ldRA => Sys2Proof.Machine.ldRA
  | .ldPairImm p nn => Sys2Proof.Machine.ldPairImm p nn
  | .ldIdxImm x nn => Sys2Proof.Machine.ldIdxImm x nn
  | .ldHLMem nn => Sys2Proof.Machine.ldHLMem nn
  | .ldMemHL nn => Sys2Proof.Machine.ldMemHL nn
  | .ldPairMem p nn => Sys2Proof.Machine.ldPairMem p nn
  | .ldMemPair nn p => Sys2Proof.Machine.ldMemPair nn p
  | .ldIdxMem x nn => Sys2Proof.Machine.ldIdxMem x nn
  | .ldMemIdx nn x => Sys2Proof.Machine.ldMemIdx nn x
  | .ldSPHL => Sys2Proof.Machine.ldSPHL
  | .ldSPIdx x => Sys2Proof.Machine.ldSPIdx x
  | .push p => Sys2Proof.Machine.push p
  | .pushIdx x => Sys2Proof.Machine.pushIdx x
  | .pop p => Sys2Proof.Machine.pop p
  | .popIdx x => Sys2Proof.Machine.popIdx x
  | .exDEHL => Sys2Proof.Machine.exDEHL
  | .exAF => Sys2Proof.Machine.exAF
  | .exx => Sys2Proof.Machine.exx
  | .exSPHL => Sys2Proof.Machine.exSPHL
  | .exSPIdx x => Sys2Proof.Machine.exSPIdx x
  | .alu o s => Sys2Proof.Machine.alu o s
  | .incLoc m => Sys2Proof.Machine.incLoc m
  | .decLoc m => Sys2Proof.Machine.decLoc m
  | .addHL p => Sys2Proof.Machine.addHL p
  | .addIdx x p => Sys2Proof.Machine.addIdx x p
  | .adcHL p => Sys2Proof.Machine.adcHL p
  | .sbcHL p => Sys2Proof.Machine.sbcHL p
  | .incPair p => Sys2Proof.Machine.incPair p
  | .incIdx x => Sys2Proof.Machine.incIdx x
  | .decPair p => Sys2Proof.Machine.decPair p
  | .decIdx x => Sys2Proof.Machine.decIdx x
  | .rlca => Sys2Proof.Machine.rlca
  | .rrca => Sys2Proof.Machine.rrca
  | .rla => Sys2Proof.Machine.rla
  | .rra => Sys2Proof.Machine.rra
  | .rot o m => Sys2Proof.Machine.rot o m
  | .rld => Sys2Proof.Machine.rld
  | .rrd => Sys2Proof.Machine.rrd
  | .bitTestReg b r => Sys2Proof.Machine.bitTestReg b r
  | .bitTestHL b => Sys2Proof.Machine.bitTestHL b
  | .bitTestIdx b x d _ => Sys2Proof.Machine.bitTestIdx b x d
  | .resBit b m => Sys2Proof.Machine.resBit b m
  | .setBit b m => Sys2Proof.Machine.setBit b m
  | .jp nn => Sys2Proof.Machine.jp nn
  | .jpCond k nn => Sys2Proof.Machine.jpCond k nn
  | .jpHL => Sys2Proof.Machine.jpHL
  | .jpIdx x => Sys2Proof.Machine.jpIdx x
  | .jr e => Sys2Proof.Machine.jr e
  | .jrCond k e => Sys2Proof.Machine.jrCond k e
  | .djnz e => Sys2Proof.Machine.djnz e
  | .call nn => Sys2Proof.Machine.call nn
  | .callCond k nn => Sys2Proof.Machine.callCond k nn
  | .ret => Sys2Proof.Machine.ret
  | .retCond k => Sys2Proof.Machine.retCond k
  | .reti => Sys2Proof.Machine.reti
  | .retn => Sys2Proof.Machine.retn
  | .rst y => Sys2Proof.Machine.rst y
  | .inAPort n => Sys2Proof.Machine.inAPort n
  | .inRegC r => Sys2Proof.Machine.inRegC r
  | .outPortA n => Sys2Proof.Machine.outPortA n
  | .outCReg r => Sys2Proof.Machine.outCReg r
  | .inBlock g => Sys2Proof.Machine.inBlock g
  | .inBlockRep g => Sys2Proof.Machine.inBlockRep g
  | .outBlock g => Sys2Proof.Machine.outBlock g
  | .outBlockRep g => Sys2Proof.Machine.outBlockRep g
  | .ldBlock g => Sys2Proof.Machine.ldBlock g
  | .ldBlockRep g => Sys2Proof.Machine.ldBlockRep g
  | .cpBlock g => Sys2Proof.Machine.cpBlock g
  | .cpBlockRep g => Sys2Proof.Machine.cpBlockRep g
  | .nop => Sys2Proof.Machine.nop
  | .halt => Sys2Proof.Machine.halt
  | .di => Sys2Proof.Machine.di
  | .ei => Sys2Proof.Machine.ei
  | .im m => Sys2Proof.Machine.im m
  | .neg => Sys2Proof.Machine.neg
  | .cpl => Sys2Proof.Machine.cpl
  | .scf => Sys2Proof.Machine.scf
  | .ccf => Sys2Proof.Machine.ccf
  | .daa => Sys2Proof.Machine.daa

/-- The meaning of an instruction is the operation of its rule. -/
theorem exec_eq_run (i : Instr) (s : State) : exec i s = Op.run i.op s := by cases i <;> rfl

theorem exec_of_op {i : Instr} {o : Op} (h : i.op = o) (s : State) : exec i s = Op.run o s := by
  rw [exec_eq_run, h]

/-- Every instruction completes, in every state. -/
theorem Op.run_next (o : Op) (s : State) : ∃ t, Op.run o s = .next t := by cases o <;> exact ⟨_, rfl⟩

/-! ### What every instruction keeps

A property of states that the elementary updates keep is kept by every instruction. -/

/-- The elementary updates of which every instruction is made keep `P`. -/
structure Keeps (P : State → Prop) : Prop where
  /-- Any change of the general registers. -/
  regs : ∀ s f, P s → P (s.mapRegs f)
  /-- A store of one byte. -/
  write : ∀ s a v, P s → P (s.write a v)
  /-- Any change of PC, I, R, the latches, the mode, HALT and the EI shadow. -/
  control : ∀ (s : State) (pc : Word) (i r : Byte) (iff1 iff2 : Bool) (im : IntMode) (halted ei : Bool), P s →
    P { s with pc := pc, i := i, r := r, iff1 := iff1, iff2 := iff2, im := im, halted := halted, eiShadow := ei }
  /-- The draw of a free value. -/
  drew : ∀ s, P s → P s.drew
  /-- The clock. -/
  tick : ∀ s n, P s → P (s.tick n)
  /-- A port read. -/
  portRead : ∀ s p, P s → P (s.portRead p).2
  /-- A port write. -/
  portWrite : ∀ s p v, P s → P (s.portWrite p v)

section
variable {P : State → Prop} (hP : Keeps P) {s : State}
include hP

theorem Keeps.pc (w : Word) (h : P s) : P { s with pc := w } := hP.control s w s.i s.r s.iff1 s.iff2 s.im s.halted s.eiShadow h

theorem Keeps.fetched (len m1 : Nat) (h : P s) : P (s.fetched len m1) :=
  hP.control s (s.pc + BitVec.ofNat 16 len) s.i (countR s.r m1) s.iff1 s.iff2 s.im s.halted s.eiShadow h

theorem Keeps.writeF (x y k : Byte) (h : P s) : P (s.writeF x y k) := hP.drew _ (hP.regs _ _ h)

theorem Keeps.write16 (a w : Word) (h : P s) : P (s.write16 a w) := hP.write _ _ _ (hP.write _ _ _ h)

theorem Keeps.push16 (w : Word) (h : P s) : P (s.push16 w) :=
  hP.regs _ (fun g => { g with sp := s.regs.sp - 2 }) (hP.write _ _ _ (hP.write _ _ _ h))

theorem Keeps.popped (h : P s) : P s.popped := hP.regs _ _ h

theorem Keeps.writeLoc (m : Loc8) (v : Byte) (h : P s) : P (s.writeLoc m v) := by
  cases m with
  | reg r => exact hP.regs s (fun g => g.set r v) h
  | atHL => exact hP.write _ _ _ h
  | atIdx x d => exact hP.write _ _ _ h

theorem Keeps.jumpTo (w : Word) (h : P s) : P (s.jumpTo w) := hP.pc w h

theorem Keeps.callTo (w : Word) (h : P s) : P (s.callTo w) := hP.pc w (hP.push16 _ h)

theorem Keeps.returned (h : P s) : P s.returned := hP.pc _ (hP.popped h)

theorem Keeps.returnFromInterrupt (h : P s) : P s.returnFromInterrupt :=
  hP.control s.popped s.popValue s.i s.r s.iff2 s.iff2 s.im s.halted s.eiShadow (hP.popped h)

omit hP in
theorem Keeps.whenCond (k : Cond) (f : State → State) (hf : P s → P (f s)) (h : P s) : P (s.whenCond k f).1 := by
  unfold State.whenCond; split
  · exact hf h
  · exact h

theorem Keeps.inIteration (g : Dir) (h : P s) : P (inIteration g s) :=
  hP.writeF _ _ _ (hP.regs _ _ (hP.write _ _ _ (hP.portRead _ _ h)))

theorem Keeps.outIteration (g : Dir) (h : P s) : P (outIteration g s) :=
  hP.writeF _ _ _ (hP.regs _ _ (hP.portWrite _ _ _ (hP.regs _ _ h)))

theorem Keeps.ldIteration (g : Dir) (h : P s) : P (ldIteration g s) :=
  hP.writeF _ _ _ (hP.regs _ _ (hP.write _ _ _ h))

theorem Keeps.cpIteration (g : Dir) (h : P s) : P (cpIteration g s).1 := hP.writeF _ _ _ (hP.regs _ _ h)

theorem Keeps.runFixed {len m1 cyc : Nat} {body : State → State} (hb : ∀ t, P t → P (body t)) (h : P s) {t : State}
    (e : runFixed len m1 cyc body s = .next t) : P t := by
  cases e
  exact hP.tick _ _ (hb _ (hP.fetched _ _ h))

theorem Keeps.runEither {len m1 yes no : Nat} {body : State → State × Bool} (hb : ∀ t, P t → P (body t).1) (h : P s)
    {t : State} (e : runEither len m1 yes no body s = .next t) : P t := by
  cases e
  exact hP.tick _ _ (hb _ (hP.fetched _ _ h))

/-- Every operation keeps what the elementary updates keep. -/
theorem Keeps.run {o : Op} {t : State} (e : Op.run o s = .next t) (h : P s) : P t := by
  cases o
  case ldRegReg =>
    simp only [Op.run, Machine.ldRegReg] at e
    exact hP.runFixed (fun u hu => hP.regs _ _ hu) h e
  case ldRegImm =>
    simp only [Op.run, Machine.ldRegImm] at e
    exact hP.runFixed (fun u hu => hP.regs _ _ hu) h e
  case ldRegHL =>
    simp only [Op.run, Machine.ldRegHL] at e
    exact hP.runFixed (fun u hu => hP.regs _ _ hu) h e
  case ldHLReg =>
    simp only [Op.run, Machine.ldHLReg] at e
    exact hP.runFixed (fun u hu => hP.write _ _ _ hu) h e
  case ldHLImm =>
    simp only [Op.run, Machine.ldHLImm] at e
    exact hP.runFixed (fun u hu => hP.write _ _ _ hu) h e
  case ldRegIdx =>
    simp only [Op.run, Machine.ldRegIdx] at e
    exact hP.runFixed (fun u hu => hP.regs _ _ hu) h e
  case ldIdxReg =>
    simp only [Op.run, Machine.ldIdxReg] at e
    exact hP.runFixed (fun u hu => hP.write _ _ _ hu) h e
  case ldIdxNum =>
    simp only [Op.run, Machine.ldIdxNum] at e
    exact hP.runFixed (fun u hu => hP.write _ _ _ hu) h e
  case ldABC =>
    simp only [Op.run, Machine.ldABC] at e
    exact hP.runFixed (fun u hu => hP.regs _ _ hu) h e
  case ldADE =>
    simp only [Op.run, Machine.ldADE] at e
    exact hP.runFixed (fun u hu => hP.regs _ _ hu) h e
  case ldBCA =>
    simp only [Op.run, Machine.ldBCA] at e
    exact hP.runFixed (fun u hu => hP.write _ _ _ hu) h e
  case ldDEA =>
    simp only [Op.run, Machine.ldDEA] at e
    exact hP.runFixed (fun u hu => hP.write _ _ _ hu) h e
  case ldAMem =>
    simp only [Op.run, Machine.ldAMem] at e
    exact hP.runFixed (fun u hu => hP.regs _ _ hu) h e
  case ldMemA =>
    simp only [Op.run, Machine.ldMemA] at e
    exact hP.runFixed (fun u hu => hP.write _ _ _ hu) h e
  case ldAI =>
    simp only [Op.run, Machine.ldAI] at e
    exact hP.runFixed (fun u hu => hP.writeF _ _ _ (hP.regs _ _ hu)) h e
  case ldAR =>
    simp only [Op.run, Machine.ldAR] at e
    refine hP.runFixed (fun u hu => ?_) h e
    split
    · exact hP.writeF _ _ _ (hP.regs _ _ hu)
    · exact hP.writeF _ _ _ (hP.regs _ _ (hP.drew _ hu))
  case ldIA =>
    simp only [Op.run, Machine.ldIA] at e
    exact hP.runFixed (fun u hu => hP.control u _ _ _ _ _ _ _ _ hu) h e
  case ldRA =>
    simp only [Op.run, Machine.ldRA] at e
    exact hP.runFixed (fun u hu => hP.control u _ _ _ _ _ _ _ _ hu) h e
  case ldPairImm =>
    simp only [Op.run, Machine.ldPairImm] at e
    exact hP.runFixed (fun u hu => hP.regs _ _ hu) h e
  case ldIdxImm =>
    simp only [Op.run, Machine.ldIdxImm] at e
    exact hP.runFixed (fun u hu => hP.regs _ _ hu) h e
  case ldHLMem =>
    simp only [Op.run, Machine.ldHLMem] at e
    exact hP.runFixed (fun u hu => hP.regs _ _ hu) h e
  case ldMemHL =>
    simp only [Op.run, Machine.ldMemHL] at e
    exact hP.runFixed (fun u hu => hP.write16 _ _ hu) h e
  case ldPairMem =>
    simp only [Op.run, Machine.ldPairMem] at e
    exact hP.runFixed (fun u hu => hP.regs _ _ hu) h e
  case ldMemPair =>
    simp only [Op.run, Machine.ldMemPair] at e
    exact hP.runFixed (fun u hu => hP.write16 _ _ hu) h e
  case ldIdxMem =>
    simp only [Op.run, Machine.ldIdxMem] at e
    exact hP.runFixed (fun u hu => hP.regs _ _ hu) h e
  case ldMemIdx =>
    simp only [Op.run, Machine.ldMemIdx] at e
    exact hP.runFixed (fun u hu => hP.write16 _ _ hu) h e
  case ldSPHL =>
    simp only [Op.run, Machine.ldSPHL] at e
    exact hP.runFixed (fun u hu => hP.regs _ _ hu) h e
  case ldSPIdx =>
    simp only [Op.run, Machine.ldSPIdx] at e
    exact hP.runFixed (fun u hu => hP.regs _ _ hu) h e
  case push =>
    simp only [Op.run, Machine.push] at e
    exact hP.runFixed (fun u hu => hP.push16 _ hu) h e
  case pushIdx =>
    simp only [Op.run, Machine.pushIdx] at e
    exact hP.runFixed (fun u hu => hP.push16 _ hu) h e
  case pop =>
    simp only [Op.run, Machine.pop] at e
    exact hP.runFixed (fun u hu => hP.regs _ _ (hP.popped hu)) h e
  case popIdx =>
    simp only [Op.run, Machine.popIdx] at e
    exact hP.runFixed (fun u hu => hP.regs _ _ (hP.popped hu)) h e
  case exDEHL =>
    simp only [Op.run, Machine.exDEHL] at e
    exact hP.runFixed (fun u hu => hP.regs _ _ hu) h e
  case exAF =>
    simp only [Op.run, Machine.exAF] at e
    exact hP.runFixed (fun u hu => hP.regs _ _ hu) h e
  case exx =>
    simp only [Op.run, Machine.exx] at e
    exact hP.runFixed (fun u hu => hP.regs _ _ hu) h e
  case exSPHL =>
    simp only [Op.run, Machine.exSPHL] at e
    exact hP.runFixed (fun u hu => hP.regs _ _ (hP.write16 _ _ hu)) h e
  case exSPIdx =>
    simp only [Op.run, Machine.exSPIdx] at e
    exact hP.runFixed (fun u hu => hP.regs _ _ (hP.write16 _ _ hu)) h e
  case alu =>
    simp only [Op.run, Machine.alu] at e
    exact hP.runFixed (fun u hu => hP.writeF _ _ _ (hP.regs _ _ hu)) h e
  case incLoc =>
    simp only [Op.run, Machine.incLoc] at e
    exact hP.runFixed (fun u hu => hP.writeF _ _ _ (hP.writeLoc _ _ hu)) h e
  case decLoc =>
    simp only [Op.run, Machine.decLoc] at e
    exact hP.runFixed (fun u hu => hP.writeF _ _ _ (hP.writeLoc _ _ hu)) h e
  case addHL =>
    simp only [Op.run, Machine.addHL] at e
    exact hP.runFixed (fun u hu => hP.writeF _ _ _ (hP.regs _ _ hu)) h e
  case addIdx =>
    simp only [Op.run, Machine.addIdx] at e
    exact hP.runFixed (fun u hu => hP.writeF _ _ _ (hP.regs _ _ hu)) h e
  case adcHL =>
    simp only [Op.run, Machine.adcHL] at e
    exact hP.runFixed (fun u hu => hP.writeF _ _ _ (hP.regs _ _ hu)) h e
  case sbcHL =>
    simp only [Op.run, Machine.sbcHL] at e
    exact hP.runFixed (fun u hu => hP.writeF _ _ _ (hP.regs _ _ hu)) h e
  case incPair =>
    simp only [Op.run, Machine.incPair] at e
    exact hP.runFixed (fun u hu => hP.regs _ _ hu) h e
  case incIdx =>
    simp only [Op.run, Machine.incIdx] at e
    exact hP.runFixed (fun u hu => hP.regs _ _ hu) h e
  case decPair =>
    simp only [Op.run, Machine.decPair] at e
    exact hP.runFixed (fun u hu => hP.regs _ _ hu) h e
  case decIdx =>
    simp only [Op.run, Machine.decIdx] at e
    exact hP.runFixed (fun u hu => hP.regs _ _ hu) h e
  case rlca =>
    simp only [Op.run, Machine.rlca] at e
    exact hP.runFixed (fun u hu => hP.writeF _ _ _ (hP.regs _ _ hu)) h e
  case rrca =>
    simp only [Op.run, Machine.rrca] at e
    exact hP.runFixed (fun u hu => hP.writeF _ _ _ (hP.regs _ _ hu)) h e
  case rla =>
    simp only [Op.run, Machine.rla] at e
    exact hP.runFixed (fun u hu => hP.writeF _ _ _ (hP.regs _ _ hu)) h e
  case rra =>
    simp only [Op.run, Machine.rra] at e
    exact hP.runFixed (fun u hu => hP.writeF _ _ _ (hP.regs _ _ hu)) h e
  case rot =>
    simp only [Op.run, Machine.rot] at e
    exact hP.runFixed (fun u hu => hP.writeF _ _ _ (hP.writeLoc _ _ hu)) h e
  case rld =>
    simp only [Op.run, Machine.rld] at e
    exact hP.runFixed (fun u hu => hP.writeF _ _ _ (hP.regs _ _ (hP.write _ _ _ hu))) h e
  case rrd =>
    simp only [Op.run, Machine.rrd] at e
    exact hP.runFixed (fun u hu => hP.writeF _ _ _ (hP.regs _ _ (hP.write _ _ _ hu))) h e
  case bitTestReg =>
    simp only [Op.run, Machine.bitTestReg] at e
    exact hP.runFixed (fun u hu => hP.writeF _ _ _ hu) h e
  case bitTestHL =>
    simp only [Op.run, Machine.bitTestHL] at e
    exact hP.runFixed (fun u hu => hP.writeF _ _ _ hu) h e
  case bitTestIdx =>
    simp only [Op.run, Machine.bitTestIdx] at e
    exact hP.runFixed (fun u hu => hP.writeF _ _ _ hu) h e
  case resBit =>
    simp only [Op.run, Machine.resBit] at e
    exact hP.runFixed (fun u hu => hP.writeLoc _ _ hu) h e
  case setBit =>
    simp only [Op.run, Machine.setBit] at e
    exact hP.runFixed (fun u hu => hP.writeLoc _ _ hu) h e
  case jp =>
    simp only [Op.run, Machine.jp] at e
    exact hP.runFixed (fun u hu => hP.jumpTo _ hu) h e
  case jpCond =>
    simp only [Op.run, Machine.jpCond] at e
    exact hP.runEither (fun u hu => Keeps.whenCond _ _ (hP.jumpTo _) hu) h e
  case jpHL =>
    simp only [Op.run, Machine.jpHL] at e
    exact hP.runFixed (fun u hu => hP.jumpTo _ hu) h e
  case jpIdx =>
    simp only [Op.run, Machine.jpIdx] at e
    exact hP.runFixed (fun u hu => hP.jumpTo _ hu) h e
  case jr =>
    simp only [Op.run, Machine.jr] at e
    exact hP.runFixed (fun u hu => hP.jumpTo _ hu) h e
  case jrCond =>
    simp only [Op.run, Machine.jrCond] at e
    exact hP.runEither (fun u hu => Keeps.whenCond _ _ (hP.jumpTo _) hu) h e
  case djnz =>
    simp only [Op.run, Machine.djnz] at e
    refine hP.runEither (fun u hu => ?_) h e
    split
    · exact hP.jumpTo _ (hP.regs _ _ hu)
    · exact hP.regs _ (fun g => { g with b := g.b - 1 }) hu
  case call =>
    simp only [Op.run, Machine.call] at e
    exact hP.runFixed (fun u hu => hP.callTo _ hu) h e
  case callCond =>
    simp only [Op.run, Machine.callCond] at e
    exact hP.runEither (fun u hu => Keeps.whenCond _ _ (hP.callTo _) hu) h e
  case ret =>
    simp only [Op.run, Machine.ret] at e
    exact hP.runFixed (fun u hu => hP.returned hu) h e
  case retCond =>
    simp only [Op.run, Machine.retCond] at e
    exact hP.runEither (fun u hu => Keeps.whenCond _ _ hP.returned hu) h e
  case reti =>
    simp only [Op.run, Machine.reti] at e
    exact hP.runFixed (fun u hu => hP.returnFromInterrupt hu) h e
  case retn =>
    simp only [Op.run, Machine.retn] at e
    exact hP.runFixed (fun u hu => hP.returnFromInterrupt hu) h e
  case rst =>
    simp only [Op.run, Machine.rst] at e
    exact hP.runFixed (fun u hu => hP.callTo _ hu) h e
  case inAPort =>
    simp only [Op.run, Machine.inAPort] at e
    exact hP.runFixed (fun u hu => hP.regs _ _ (hP.portRead _ _ hu)) h e
  case inRegC =>
    simp only [Op.run, Machine.inRegC] at e
    exact hP.runFixed (fun u hu => hP.writeF _ _ _ (hP.regs _ _ (hP.portRead _ _ hu))) h e
  case outPortA =>
    simp only [Op.run, Machine.outPortA] at e
    exact hP.runFixed (fun u hu => hP.portWrite _ _ _ hu) h e
  case outCReg =>
    simp only [Op.run, Machine.outCReg] at e
    exact hP.runFixed (fun u hu => hP.portWrite _ _ _ hu) h e
  case inBlock =>
    simp only [Op.run, Machine.inBlock] at e
    exact hP.runFixed (fun u hu => hP.inIteration _ hu) h e
  case inBlockRep =>
    simp only [Op.run, Machine.inBlockRep] at e
    refine hP.runEither (fun u hu => ?_) h e
    unfold repeatB
    split
    · exact hP.pc _ (hP.inIteration _ hu)
    · exact hP.inIteration _ hu
  case outBlock =>
    simp only [Op.run, Machine.outBlock] at e
    exact hP.runFixed (fun u hu => hP.outIteration _ hu) h e
  case outBlockRep =>
    simp only [Op.run, Machine.outBlockRep] at e
    refine hP.runEither (fun u hu => ?_) h e
    unfold repeatB
    split
    · exact hP.pc _ (hP.outIteration _ hu)
    · exact hP.outIteration _ hu
  case ldBlock =>
    simp only [Op.run, Machine.ldBlock] at e
    exact hP.runFixed (fun u hu => hP.ldIteration _ hu) h e
  case ldBlockRep =>
    simp only [Op.run, Machine.ldBlockRep] at e
    refine hP.runEither (fun u hu => ?_) h e
    split
    · exact hP.pc _ (hP.ldIteration _ hu)
    · exact hP.ldIteration _ hu
  case cpBlock =>
    simp only [Op.run, Machine.cpBlock] at e
    exact hP.runFixed (fun u hu => hP.cpIteration _ hu) h e
  case cpBlockRep =>
    simp only [Op.run, Machine.cpBlockRep] at e
    refine hP.runEither (fun u hu => ?_) h e
    split
    · exact hP.pc _ (hP.cpIteration _ hu)
    · exact hP.cpIteration _ hu
  case nop =>
    simp only [Op.run, Machine.nop] at e
    exact hP.runFixed (fun u hu => hu) h e
  case halt =>
    simp only [Op.run, Machine.halt] at e
    exact hP.runFixed (fun u hu => hP.control u _ _ _ _ _ _ _ _ hu) h e
  case di =>
    simp only [Op.run, Machine.di] at e
    exact hP.runFixed (fun u hu => hP.control u _ _ _ _ _ _ _ _ hu) h e
  case ei =>
    simp only [Op.run, Machine.ei] at e
    exact hP.runFixed (fun u hu => hP.control u _ _ _ _ _ _ _ _ hu) h e
  case im =>
    simp only [Op.run, Machine.im] at e
    exact hP.runFixed (fun u hu => hP.control u _ _ _ _ _ _ _ _ hu) h e
  case neg =>
    simp only [Op.run, Machine.neg] at e
    exact hP.runFixed (fun u hu => hP.writeF _ _ _ (hP.regs _ _ hu)) h e
  case cpl =>
    simp only [Op.run, Machine.cpl] at e
    exact hP.runFixed (fun u hu => hP.writeF _ _ _ (hP.regs _ _ hu)) h e
  case scf =>
    simp only [Op.run, Machine.scf] at e
    exact hP.runFixed (fun u hu => hP.writeF _ _ _ hu) h e
  case ccf =>
    simp only [Op.run, Machine.ccf] at e
    exact hP.runFixed (fun u hu => hP.writeF _ _ _ hu) h e
  case daa =>
    simp only [Op.run, Machine.daa] at e
    exact hP.runFixed (fun u hu => hP.writeF _ _ _ (hP.regs _ _ hu)) h e

/-- Every instruction keeps what the elementary updates keep. -/
theorem Keeps.exec {i : Instr} {t : State} (e : exec i s = .next t) (h : P s) : P t := by
  rw [exec_eq_run] at e
  exact hP.run e h

/-- So does the accepted interrupt, if acknowledging it does. -/
theorem Keeps.acceptIM1 (ha : ∀ u, P u → P { u with vdp := u.vdp.acknowledge }) (h : P s) : P s.acceptIM1 := by
  have h1 := hP.push16 (s := { s with halted := false }) s.pc
    (hP.control s s.pc s.i s.r s.iff1 s.iff2 s.im false s.eiShadow h)
  have h2 := hP.control _ 0x0038 s.i (countR s.r 1) false false s.im false s.eiShadow h1
  exact hP.tick _ _ (ha _ h2)

end

/-- What a step keeps: every elementary update, the poll, the acknowledge and a fatal fault. -/
theorem Keeps.step {P : State → Prop} (hP : Keeps P) (hpoll : ∀ u, P u → P u.polled)
    (hack : ∀ u, P u → P { u with vdp := u.vdp.acknowledge }) (hraise : ∀ u x, P u → P (u.raise x)) {s t : State}
    (e : step s = .next t) (h : P s) : P t := by
  have after : ∀ u, P u → u.afterPoll = .next t → P t := by
    intro u hu e
    unfold State.afterPoll at e
    split at e
    · cases e
      exact hP.tick _ _ (hP.control u u.pc u.i (countR u.r 1) u.iff1 u.iff2 u.im u.halted u.eiShadow hu)
    · split at e
      · exact hP.exec e hu
      · cases e; exact hraise _ _ hu
      · cases e; exact hraise _ _ hu
  unfold Machine.step State.cycle at e
  split at e
  · cases e; exact h
  · split at e
    · cases e
    · split at e
      · split at e
        · exact after _ (hP.acceptIM1 hack (hpoll _ h)) e
        · cases e; exact hraise _ _ (hpoll _ h)
      · exact after _ (hpoll _ h) e

end Sys2Proof.Machine
end

