-- ==== Sys2Proof/Laws/Flags.lean ====
section
/-! SUPPORT. The laws of the flag register: the flags of `flagByte`, and each flag after a flag write, for each mask that an
instruction uses. -/

namespace Sys2Proof.Machine

section
variable (s z h pv n c : Bool)

@[simp] theorem flagS_flagByte : flagS (flagByte s z h pv n c) = s := by
  cases s <;> cases z <;> cases h <;> cases pv <;> cases n <;> cases c <;> rfl

@[simp] theorem flagZ_flagByte : flagZ (flagByte s z h pv n c) = z := by
  cases s <;> cases z <;> cases h <;> cases pv <;> cases n <;> cases c <;> rfl

@[simp] theorem flagH_flagByte : flagH (flagByte s z h pv n c) = h := by
  cases s <;> cases z <;> cases h <;> cases pv <;> cases n <;> cases c <;> rfl

@[simp] theorem flagPV_flagByte : flagPV (flagByte s z h pv n c) = pv := by
  cases s <;> cases z <;> cases h <;> cases pv <;> cases n <;> cases c <;> rfl

@[simp] theorem flagN_flagByte : flagN (flagByte s z h pv n c) = n := by
  cases s <;> cases z <;> cases h <;> cases pv <;> cases n <;> cases c <;> rfl

@[simp] theorem flagC_flagByte : flagC (flagByte s z h pv n c) = c := by
  cases s <;> cases z <;> cases h <;> cases pv <;> cases n <;> cases c <;> rfl

theorem flagsAre_flagByte : FlagsAre (flagByte s z h pv n c) s z h pv n c := by simp [FlagsAre]

end

/-- A bit of F after a flag write. -/
theorem getLsbD_mergeF (exact free old known drawn : Byte) {k : Nat} (hk : k < 8) :
    (mergeF exact free old known drawn).getLsbD k =
      ((known.getLsbD k && exact.getLsbD k) || (drawn.getLsbD k && free.getLsbD k) ||
        (old.getLsbD k && !(exact.getLsbD k || free.getLsbD k))) := by
  simp only [mergeF, BitVec.getLsbD_or, BitVec.getLsbD_and, BitVec.getLsbD_not, hk, decide_true, Bool.true_and]

section
variable (old known drawn : Byte)

/-- All six flags are written. -/
theorem sameFlags_mergeF_all : SameFlags (mergeF maskAll maskX old known drawn) known := by
  simp only [SameFlags, FlagsAre, flagS, flagZ, flagH, flagPV, flagN, flagC]
  refine ⟨?_, ?_, ?_, ?_, ?_, ?_⟩ <;> rw [getLsbD_mergeF _ _ _ _ _ (by decide)] <;> simp [maskAll, maskX]

/-- C is kept. -/
theorem flagsAre_mergeF_keepC : FlagsAre (mergeF maskKeepC maskX old known drawn)
    (flagS known) (flagZ known) (flagH known) (flagPV known) (flagN known) (flagC old) := by
  simp only [FlagsAre, flagS, flagZ, flagH, flagPV, flagN, flagC]
  refine ⟨?_, ?_, ?_, ?_, ?_, ?_⟩ <;> rw [getLsbD_mergeF _ _ _ _ _ (by decide)] <;> simp [maskKeepC, maskX]

/-- S, Z and PV are kept. -/
theorem flagsAre_mergeF_hnc : FlagsAre (mergeF maskHNC maskX old known drawn)
    (flagS old) (flagZ old) (flagH known) (flagPV old) (flagN known) (flagC known) := by
  simp only [FlagsAre, flagS, flagZ, flagH, flagPV, flagN, flagC]
  refine ⟨?_, ?_, ?_, ?_, ?_, ?_⟩ <;> rw [getLsbD_mergeF _ _ _ _ _ (by decide)] <;> simp [maskHNC, maskX]

/-- H and N alone are written. -/
theorem flagsAre_mergeF_hn : FlagsAre (mergeF maskHN maskX old known drawn)
    (flagS old) (flagZ old) (flagH known) (flagPV old) (flagN known) (flagC old) := by
  simp only [FlagsAre, flagS, flagZ, flagH, flagPV, flagN, flagC]
  refine ⟨?_, ?_, ?_, ?_, ?_, ?_⟩ <;> rw [getLsbD_mergeF _ _ _ _ _ (by decide)] <;> simp [maskHN, maskX]

/-- H, PV and N alone are written. -/
theorem flagsAre_mergeF_hpvn : FlagsAre (mergeF maskHPVN maskX old known drawn)
    (flagS old) (flagZ old) (flagH known) (flagPV known) (flagN known) (flagC old) := by
  simp only [FlagsAre, flagS, flagZ, flagH, flagPV, flagN, flagC]
  refine ⟨?_, ?_, ?_, ?_, ?_, ?_⟩ <;> rw [getLsbD_mergeF _ _ _ _ _ (by decide)] <;> simp [maskHPVN, maskX]

/-- N is kept. -/
theorem flagsAre_mergeF_daa : FlagsAre (mergeF maskDaa maskX old known drawn)
    (flagS known) (flagZ known) (flagH known) (flagPV known) (flagN old) (flagC known) := by
  simp only [FlagsAre, flagS, flagZ, flagH, flagPV, flagN, flagC]
  refine ⟨?_, ?_, ?_, ?_, ?_, ?_⟩ <;> rw [getLsbD_mergeF _ _ _ _ _ (by decide)] <;> simp [maskDaa, maskX]

/-- BIT: Z, H and N are written, C is kept, S and PV are free. -/
theorem mergeF_bit :
    let f := mergeF maskZHN maskBitDrawn old known drawn
    flagZ f = flagZ known ∧ flagH f = flagH known ∧ flagN f = flagN known ∧ flagC f = flagC old := by
  simp only [flagZ, flagH, flagN, flagC]
  refine ⟨?_, ?_, ?_, ?_⟩ <;> rw [getLsbD_mergeF _ _ _ _ _ (by decide)] <;> simp [maskZHN, maskBitDrawn]

/-- Block input and output: Z and N are written, C is kept, S, H and PV are free. -/
theorem mergeF_io :
    let f := mergeF maskZN maskIoDrawn old known drawn
    flagZ f = flagZ known ∧ flagN f = flagN known ∧ flagC f = flagC old := by
  simp only [flagZ, flagN, flagC]
  refine ⟨?_, ?_, ?_⟩ <;> rw [getLsbD_mergeF _ _ _ _ _ (by decide)] <;> simp [maskZN, maskIoDrawn]

end

end Sys2Proof.Machine
end

