-- ==== Sys2Proof/Laws/Mem.lean ====
section
/-! SUPPORT. The laws of a byte store: what a read finds after a write, that a write keeps the canonical form, and that
two stores in canonical form that read alike are equal. -/

namespace Sys2Proof.Machine

@[simp] theorem Mem.read_nil (a : Nat) : Mem.read [] a = 0 := rfl

/-- In a canonical store, an address below every listed one is unlisted. -/
theorem Mem.read_below {m : Mem} {a : Nat} (h : ∀ p ∈ m, a < p.1) : Mem.read m a = 0 := by
  induction m with
  | nil => rfl
  | cons p m ih =>
    obtain ⟨k, x⟩ := p
    have hk : a < k := h (k, x) (by simp)
    simp only [Mem.read, if_neg (Nat.ne_of_lt hk)]
    exact ih fun q hq => h q (by simp [hq])

/-- A write does not change what another address reads as. -/
theorem Mem.read_write_other (m : Mem) {a b : Nat} (v : Byte) (h : b ≠ a) :
    Mem.read (Mem.write m a v) b = Mem.read m b := by
  induction m with
  | nil => simp only [Mem.write]; split <;> simp [Mem.read, Mem.unlisted, h]
  | cons p m ih =>
    obtain ⟨k, x⟩ := p
    simp only [Mem.write]
    split
    · split <;> simp [Mem.read, h]
    · split
      · rename_i h2
        subst h2
        split <;> simp [Mem.read, h]
      · simp only [Mem.read, ih]

/-- The byte written is the byte read. -/
theorem Mem.read_write_same {size : Nat} {m : Mem} (hm : Mem.wf size m) (a : Nat) (v : Byte) :
    Mem.read (Mem.write m a v) a = v := by
  induction m with
  | nil => simp only [Mem.write]; split <;> simp_all [Mem.read, Mem.unlisted]
  | cons p m ih =>
    obtain ⟨k, x⟩ := p
    obtain ⟨hp, hb⟩ := hm
    rw [List.pairwise_cons] at hp
    have hm' : Mem.wf size m := ⟨hp.2, fun q hq => hb q (by simp [hq])⟩
    simp only [Mem.write]
    split
    · rename_i h1
      split
      · rename_i h2
        rw [h2, Mem.read, if_neg (by omega)]
        exact Mem.read_below fun q hq => Nat.lt_trans h1 (hp.1 q hq)
      · simp [Mem.read]
    · split
      · rename_i h2
        split
        · rename_i h3
          rw [h3]
          exact Mem.read_below fun q hq => h2 ▸ hp.1 q hq
        · simp [Mem.read]
      · rename_i h1 h2
        rw [Mem.read, if_neg h2]
        exact ih hm'

theorem Mem.read_write {size : Nat} {m : Mem} (hm : Mem.wf size m) (a b : Nat) (v : Byte) :
    Mem.read (Mem.write m a v) b = if b = a then v else Mem.read m b := by
  split
  · rename_i h; subst h; exact Mem.read_write_same hm _ v
  · rename_i h; exact Mem.read_write_other m v h

/-- Every pair of a written store is the pair written or a pair of the store. -/
theorem Mem.mem_write {m : Mem} {a : Nat} {v : Byte} {p : Host.Cell} (h : p ∈ Mem.write m a v) :
    (p = (a, v) ∧ v ≠ Mem.unlisted) ∨ p ∈ m := by
  induction m with
  | nil => simp only [Mem.write] at h; split at h <;> simp_all
  | cons q m ih =>
    obtain ⟨k, x⟩ := q
    simp only [Mem.write] at h
    split at h
    · split at h <;> simp_all
    · split at h
      · split at h <;> simp_all
        rcases h with h | h <;> simp_all
      · simp only [List.mem_cons] at h ⊢
        rcases h with h | h
        · exact .inr (.inl h)
        · rcases ih h with h | h
          · exact .inl h
          · exact .inr (.inr h)

/-- A write inside the store's size keeps the canonical form. -/
theorem Mem.wf_write {size : Nat} {m : Mem} (hm : Mem.wf size m) {a : Nat} (ha : a < size) (v : Byte) :
    Mem.wf size (Mem.write m a v) := by
  refine ⟨?_, ?_⟩
  · induction m with
    | nil => simp only [Mem.write]; split <;> simp
    | cons q m ih =>
      obtain ⟨k, x⟩ := q
      obtain ⟨hp, hb⟩ := hm
      have hp' := List.pairwise_cons.1 hp
      have hm' : Mem.wf size m := ⟨hp'.2, fun q hq => hb q (by simp [hq])⟩
      simp only [Mem.write]
      split
      · rename_i h1
        split
        · exact hp
        · refine List.pairwise_cons.2 ⟨fun q hq => ?_, hp⟩
          rcases List.mem_cons.1 hq with rfl | hq
          · exact h1
          · exact Nat.lt_trans h1 (hp'.1 q hq)
      · split
        · rename_i h2
          split
          · exact hp'.2
          · exact List.pairwise_cons.2 ⟨fun q hq => h2 ▸ hp'.1 q hq, hp'.2⟩
        · rename_i h1 h2
          refine List.pairwise_cons.2 ⟨fun q hq => ?_, ih hm'⟩
          rcases Mem.mem_write hq with ⟨rfl, -⟩ | hq
          · show k < a; omega
          · exact hp'.1 q hq
  · intro p hp
    rcases Mem.mem_write hp with ⟨rfl, hv⟩ | hp
    · exact ⟨ha, hv⟩
    · exact hm.2 p hp

theorem Mem.wf_nil (size : Nat) : Mem.wf size [] := by simp [Mem.wf]

/-- Two stores in canonical form that read alike at every address are equal. -/
theorem Mem.ext {size : Nat} {m n : Mem} (hm : Mem.wf size m) (hn : Mem.wf size n)
    (h : ∀ a, Mem.read m a = Mem.read n a) : m = n := by
  induction m generalizing n with
  | nil =>
    cases n with
    | nil => rfl
    | cons q n =>
      have := h q.1
      simp only [Mem.read, if_true] at this
      exact absurd this.symm (hn.2 q (by simp)).2
  | cons p m ih =>
    obtain ⟨k, x⟩ := p
    have hp := List.pairwise_cons.1 hm.1
    have hx : x ≠ Mem.unlisted := (hm.2 (k, x) (by simp)).2
    cases n with
    | nil =>
      have := h k
      simp only [Mem.read, if_true] at this
      exact absurd this hx
    | cons q n =>
      obtain ⟨j, y⟩ := q
      have hq := List.pairwise_cons.1 hn.1
      have hy : y ≠ Mem.unlisted := (hn.2 (j, y) (by simp)).2
      have hkj : k = j := by
        rcases Nat.lt_trichotomy k j with hl | he | hl
        · have hk := h k
          rw [Mem.read, if_pos rfl, Mem.read, if_neg (by omega),
            Mem.read_below fun r hr => Nat.lt_trans hl (hq.1 r hr)] at hk
          exact absurd hk hx
        · exact he
        · have hj := h j
          rw [Mem.read, if_neg (by omega), Mem.read_below fun r hr => Nat.lt_trans hl (hp.1 r hr),
            Mem.read, if_pos rfl] at hj
          exact absurd hj.symm hy
      subst hkj
      have hxy : x = y := by simpa [Mem.read] using h k
      subst hxy
      have hm' : Mem.wf size m := ⟨hp.2, fun r hr => hm.2 r (by simp [hr])⟩
      have hn' : Mem.wf size n := ⟨hq.2, fun r hr => hn.2 r (by simp [hr])⟩
      rw [ih hm' hn' fun a => ?_]
      by_cases ha : a = k
      · subst ha
        rw [Mem.read_below fun r hr => hp.1 r hr, Mem.read_below fun r hr => hq.1 r hr]
      · simpa [Mem.read, ha] using h a

end Sys2Proof.Machine
end

