-- ==== Sys2Proof/Laws/Mapper.lean ====
section
/-! SUPPORT. The laws of memory through the mapper: what each operation can change, what a read finds after a write, and
that a write keeps the canonical form of every store. -/

namespace Sys2Proof.Machine

/-! ### The selectors (R107) -/

@[simp] theorem Mapper.select_sysRam (m : Mapper) (a : Word) (v : Byte) : (m.select a v).sysRam = m.sysRam := by
  unfold Mapper.select; repeat' split
  all_goals rfl

@[simp] theorem Mapper.select_cartRam0 (m : Mapper) (a : Word) (v : Byte) :
    (m.select a v).cartRam0 = m.cartRam0 := by
  unfold Mapper.select; repeat' split
  all_goals rfl

@[simp] theorem Mapper.select_cartRam1 (m : Mapper) (a : Word) (v : Byte) :
    (m.select a v).cartRam1 = m.cartRam1 := by
  unfold Mapper.select; repeat' split
  all_goals rfl

theorem Mapper.select_ctl (m : Mapper) (a : Word) (v : Byte) :
    (m.select a v).ctl = if a = 0xFFFC#16 then v else m.ctl := by
  unfold Mapper.select; repeat' split
  all_goals simp_all

theorem Mapper.select_n0 (m : Mapper) (a : Word) (v : Byte) :
    (m.select a v).n0 = if a = 0xFFFD#16 then v else m.n0 := by
  unfold Mapper.select; repeat' split
  all_goals simp_all

theorem Mapper.select_n1 (m : Mapper) (a : Word) (v : Byte) :
    (m.select a v).n1 = if a = 0xFFFE#16 then v else m.n1 := by
  unfold Mapper.select; repeat' split
  all_goals simp_all

theorem Mapper.select_n2 (m : Mapper) (a : Word) (v : Byte) :
    (m.select a v).n2 = if a = 0xFFFF#16 then v else m.n2 := by
  unfold Mapper.select; repeat' split
  all_goals simp_all

/-- A write below the selectors selects nothing. -/
theorem Mapper.select_of_lt {a : Word} (h : a.toNat < 0xFFFC) (m : Mapper) (v : Byte) : m.select a v = m := by
  unfold Mapper.select
  have h0 : a ≠ 0xFFFC#16 := by rintro rfl; simp at h
  have h1 : a ≠ 0xFFFD#16 := by rintro rfl; simp at h
  have h2 : a ≠ 0xFFFE#16 := by rintro rfl; simp at h
  have h3 : a ≠ 0xFFFF#16 := by rintro rfl; simp at h
  simp [h0, h1, h2, h3]

/-! ### What a write does, region by region (R106) -/

/-- A write to ROM changes nothing. -/
theorem Mapper.write_rom {a : Word} (h : a.toNat < 0x8000) (m : Mapper) (v : Byte) : m.write a v = m := by
  unfold Mapper.write
  simp only [show ¬ 0xC000 ≤ a.toNat by omega, show ¬ 0x8000 ≤ a.toNat by omega, if_false]

/-- A write to slot 2 with cartridge RAM disabled changes nothing. -/
theorem Mapper.write_disabled {a : Word} {m : Mapper} (h : a.toNat < 0xC000) (hr : m.ramEnable = false) (v : Byte) :
    m.write a v = m := by
  unfold Mapper.write
  simp [show ¬ 0xC000 ≤ a.toNat by omega, hr]

/-- A write to slot 2 with cartridge RAM enabled goes to its page. -/
theorem Mapper.write_cart {a : Word} {m : Mapper} (h1 : 0x8000 ≤ a.toNat) (h2 : a.toNat < 0xC000)
    (hr : m.ramEnable = true) (v : Byte) : m.write a v = m.writeCart (a.toNat - 0x8000) v := by
  unfold Mapper.write
  simp [show ¬ 0xC000 ≤ a.toNat by omega, h1, hr]

/-- A write to system RAM, which the selectors lie over. -/
theorem Mapper.write_ram {a : Word} (h : 0xC000 ≤ a.toNat) (m : Mapper) (v : Byte) :
    m.write a v = ({ m with sysRam := Mem.write m.sysRam (a.toNat % 0x2000) v }).select a v := by
  unfold Mapper.write
  simp [h]

/-- The four regions of the address space, for a proof by cases. -/
theorem Word.regions (a : Word) :
    a.toNat < 0x8000 ∨ (0x8000 ≤ a.toNat ∧ a.toNat < 0xC000) ∨ (0xC000 ≤ a.toNat ∧ a.toNat < 0xFFFC) ∨
      0xFFFC ≤ a.toNat := by
  omega

/-! ### The canonical form -/

/-- The three stores of the mapper are in canonical form. -/
abbrev Mapper.MemWf (m : Mapper) : Prop :=
  Mem.wf 0x2000 m.sysRam ∧ Mem.wf 0x4000 m.cartRam0 ∧ Mem.wf 0x4000 m.cartRam1

theorem Mapper.writeCart_wf {m : Mapper} (hm : m.MemWf) {off : Nat} (h : off < 0x4000) (v : Byte) :
    (m.writeCart off v).MemWf := by
  unfold Mapper.writeCart
  split
  · exact ⟨hm.1, hm.2.1, Mem.wf_write hm.2.2 h v⟩
  · exact ⟨hm.1, Mem.wf_write hm.2.1 h v, hm.2.2⟩

/-- A write through the mapper keeps the canonical form. -/
theorem Mapper.write_wf {m : Mapper} (hm : m.MemWf) (a : Word) (v : Byte) : (m.write a v).MemWf := by
  unfold Mapper.write
  simp only
  split
  · refine ⟨?_, ?_, ?_⟩
    · rw [Mapper.select_sysRam]
      exact Mem.wf_write hm.1 (Nat.mod_lt _ (by decide)) v
    · rw [Mapper.select_cartRam0]; exact hm.2.1
    · rw [Mapper.select_cartRam1]; exact hm.2.2
  · split
    · split
      · exact Mapper.writeCart_wf hm (by omega) v
      · exact hm
    · exact hm

/-! ### Reads (R102) -/

theorem Mapper.read_low (c : Cart) (m : Mapper) {a : Word} (h : a.toNat < 0x0400) :
    m.read c a = c.romByte 0 a.toNat := by
  simp only [Mapper.read, h, if_true]

theorem Mapper.read_slot0 (c : Cart) (m : Mapper) {a : Word} (h1 : 0x0400 ≤ a.toNat) (h2 : a.toNat < 0x4000) :
    m.read c a = c.romByte m.n0.toNat a.toNat := by
  simp only [Mapper.read, show ¬ a.toNat < 0x0400 by omega, h2, if_true, if_false]

theorem Mapper.read_slot1 (c : Cart) (m : Mapper) {a : Word} (h1 : 0x4000 ≤ a.toNat) (h2 : a.toNat < 0x8000) :
    m.read c a = c.romByte m.n1.toNat (a.toNat - 0x4000) := by
  simp only [Mapper.read, show ¬ a.toNat < 0x0400 by omega, show ¬ a.toNat < 0x4000 by omega, h2, if_true, if_false]

theorem Mapper.read_slot2 (c : Cart) (m : Mapper) {a : Word} (h1 : 0x8000 ≤ a.toNat) (h2 : a.toNat < 0xC000) :
    m.read c a =
      if m.ramEnable then Mem.read m.cartPage (a.toNat - 0x8000) else c.romByte m.n2.toNat (a.toNat - 0x8000) := by
  simp only [Mapper.read, show ¬ a.toNat < 0x0400 by omega, show ¬ a.toNat < 0x4000 by omega,
    show ¬ a.toNat < 0x8000 by omega, h2, if_true, if_false]

theorem Mapper.read_ram (c : Cart) (m : Mapper) {a : Word} (h : 0xC000 ≤ a.toNat) :
    m.read c a = Mem.read m.sysRam (a.toNat % 0x2000) := by
  simp only [Mapper.read, show ¬ a.toNat < 0x0400 by omega, show ¬ a.toNat < 0x4000 by omega,
    show ¬ a.toNat < 0x8000 by omega, show ¬ a.toNat < 0xC000 by omega, if_false]

/-- A read depends on the control byte, the selectors and the stores alone; so it is unchanged where those it goes
through are. -/
theorem Mapper.read_congr {c : Cart} {m n : Mapper} {b : Word}
    (h0 : 0x0400 ≤ b.toNat → b.toNat < 0x4000 → n.n0 = m.n0)
    (h1 : 0x4000 ≤ b.toNat → b.toNat < 0x8000 → n.n1 = m.n1)
    (h2 : 0x8000 ≤ b.toNat → b.toNat < 0xC000 →
      n.ctl = m.ctl ∧ n.n2 = m.n2 ∧
        (m.ramEnable = true → Mem.read n.cartPage (b.toNat - 0x8000) = Mem.read m.cartPage (b.toNat - 0x8000)))
    (h3 : 0xC000 ≤ b.toNat → Mem.read n.sysRam (b.toNat % 0x2000) = Mem.read m.sysRam (b.toNat % 0x2000)) :
    n.read c b = m.read c b := by
  by_cases hb0 : b.toNat < 0x0400
  · rw [read_low _ _ hb0, read_low _ _ hb0]
  by_cases hb1 : b.toNat < 0x4000
  · rw [read_slot0 _ _ (by omega) hb1, read_slot0 _ _ (by omega) hb1, h0 (by omega) hb1]
  by_cases hb2 : b.toNat < 0x8000
  · rw [read_slot1 _ _ (by omega) hb2, read_slot1 _ _ (by omega) hb2, h1 (by omega) hb2]
  by_cases hb3 : b.toNat < 0xC000
  · obtain ⟨e1, e2, e3⟩ := h2 (by omega) hb3
    rw [read_slot2 _ _ (by omega) hb3, read_slot2 _ _ (by omega) hb3]
    have he : n.ramEnable = m.ramEnable := by simp [Mapper.ramEnable, e1]
    rw [he, e2]
    split
    · rename_i h; exact e3 h
    · rfl
  · rw [read_ram _ _ (by omega), read_ram _ _ (by omega), h3 (by omega)]

/-- A store reaches only the bytes that `storeReaches` names. -/
theorem Mapper.read_write_other {c : Cart} {m : Mapper} {a b : Word} (v : Byte) (h : storeReaches a b = false) :
    (m.write a v).read c b = m.read c b := by
  simp only [storeReaches, sameRamByte, Bool.or_eq_false_iff, beq_eq_false_iff_ne, Bool.and_eq_false_iff,
    decide_eq_false_iff_not] at h
  obtain ⟨⟨hne, hram⟩, hsel⟩ := h
  have hneN : a.toNat ≠ b.toNat := fun e => hne (BitVec.eq_of_toNat_eq e)
  by_cases ha : 0xC000 ≤ a.toNat
  · rw [write_ram ha]
    simp only [selectorMaps, Bool.or_eq_false_iff, Bool.and_eq_false_iff, beq_eq_false_iff_ne,
      decide_eq_false_iff_not] at hsel
    obtain ⟨⟨⟨s0, s1⟩, s2⟩, s3⟩ := hsel
    apply read_congr
    · intro b1 b2
      rw [select_n0, if_neg]
      rintro rfl; simp at s1; omega
    · intro b1 b2
      rw [select_n1, if_neg]
      rintro rfl; simp at s2; omega
    · intro b1 b2
      have k0 : a ≠ 0xFFFC#16 := by rintro rfl; simp at s0; omega
      have k3 : a ≠ 0xFFFF#16 := by rintro rfl; simp at s3; omega
      refine ⟨by rw [select_ctl, if_neg k0], by rw [select_n2, if_neg k3], fun _ => ?_⟩
      simp [Mapper.cartPage, Mapper.ramPage, select_ctl, k0]
    · intro hb
      rw [select_sysRam]
      exact Mem.read_write_other _ v (by omega)
  · by_cases ha2 : 0x8000 ≤ a.toNat
    · by_cases hr : m.ramEnable = true
      · rw [write_cart ha2 (by omega) hr]
        unfold Mapper.writeCart
        split
        · rename_i hp
          apply read_congr <;> intros <;> try rfl
          refine ⟨rfl, rfl, fun _ => ?_⟩
          have hp' : m.ctl.getLsbD 2 = true := hp
          simp only [Mapper.cartPage, Mapper.ramPage, hp', if_true]
          exact Mem.read_write_other _ v (by omega)
        · rename_i hp
          apply read_congr <;> intros <;> try rfl
          refine ⟨rfl, rfl, fun _ => ?_⟩
          have hp' : m.ctl.getLsbD 2 = false := by simpa [Mapper.ramPage] using hp
          simp only [Mapper.cartPage, Mapper.ramPage, hp']
          exact Mem.read_write_other _ v (by omega)
      · rw [write_disabled (by omega) (by simpa using hr)]
    · rw [write_rom (by omega)]

/-- A byte of system RAM reads back, at its address and at its mirror. -/
theorem Mapper.read_write_ram {c : Cart} {m : Mapper} (hm : m.MemWf) {a b : Word} (h : sameRamByte a b = true)
    (v : Byte) : (m.write a v).read c b = v := by
  simp only [sameRamByte, Bool.and_eq_true, decide_eq_true_eq] at h
  rw [write_ram h.1.1, read_ram _ _ h.1.2, select_sysRam, ← h.2]
  exact Mem.read_write_same hm.1 _ v

/-- A byte of the enabled cartridge-RAM page reads back. -/
theorem Mapper.read_write_cart {c : Cart} {m : Mapper} (hm : m.MemWf) {a : Word} (h1 : 0x8000 ≤ a.toNat)
    (h2 : a.toNat < 0xC000) (hr : m.ramEnable = true) (v : Byte) : (m.write a v).read c a = v := by
  rw [write_cart h1 h2 hr, read_slot2 _ _ h1 h2]
  unfold Mapper.writeCart
  split
  · rename_i hp
    have hp' : m.ctl.getLsbD 2 = true := hp
    have hr' : m.ctl.getLsbD 3 = true := hr
    simp only [Mapper.ramEnable, Mapper.cartPage, Mapper.ramPage, hp', hr', if_true]
    exact Mem.read_write_same hm.2.2 _ v
  · rename_i hp
    have hp' : m.ctl.getLsbD 2 = false := by simpa [Mapper.ramPage] using hp
    have hr' : m.ctl.getLsbD 3 = true := hr
    simp only [Mapper.ramEnable, Mapper.cartPage, Mapper.ramPage, hp', hr', if_true]
    exact Mem.read_write_same hm.2.1 _ v

/-! ### The state's reads and writes -/

theorem State.read_eq (s : State) (a : Word) : s.read a = s.mem.read s.cart a := rfl

theorem State.read_write_other {s : State} {a b : Word} (v : Byte) (h : storeReaches a b = false) :
    (s.write a v).read b = s.read b := Mapper.read_write_other v h

end Sys2Proof.Machine
end

