-- ==== Sys2Proof/Laws/Ops.lean ====
section
/-! SUPPORT. One law per shared operation: what it can do, in terms of the state it starts from. -/

namespace Sys2Proof.Machine

/-! ### The refresh counter (R41) -/

theorem countR_msb (r : Byte) (k : Nat) : (countR r k).msb = r.msb := by
  simp [countR, BitVec.msb_eq_getLsbD_last]

/-- R's low seven bits count mod 128. -/
theorem countR_low (r : Byte) (k : Nat) : (countR r k).toNat % 128 = (r.toNat + k) % 128 := by
  have h1 : (countR r k).toNat % 128 = (r + BitVec.ofNat 8 k).toNat % 128 := by
    have h2 : (countR r k).toNat % 128 = (countR r k &&& 0x7F).toNat := by
      rw [BitVec.toNat_and]; exact (Nat.and_two_pow_sub_one_eq_mod _ 7).symm
    have h3 : (r + BitVec.ofNat 8 k).toNat % 128 = ((r + BitVec.ofNat 8 k) &&& 0x7F).toNat := by
      rw [BitVec.toNat_and]; exact (Nat.and_two_pow_sub_one_eq_mod _ 7).symm
    rw [h2, h3]
    congr 1
    apply BitVec.eq_of_getLsbD_eq
    intro i hi
    have key : ∀ i < 8, (0x80 : Byte).getLsbD i = !(0x7F : Byte).getLsbD i := by decide
    simp only [countR, BitVec.getLsbD_and, BitVec.getLsbD_or, key i hi]
    cases (0x7F : Byte).getLsbD i <;> simp
  rw [h1, BitVec.toNat_add, BitVec.toNat_ofNat]
  omega

/-! ### Running an instruction -/

/-- An instruction of fixed cost answers its body on the fetched state, with its T-states. -/
theorem runFixed_eq (len m1 cyc : Nat) (body : State → State) (s : State) :
    runFixed len m1 cyc body s = .next ((body (s.fetched len m1)).tick cyc) := rfl

/-- A conditional instruction: with its condition, its effect and the taken count; else nothing and the other count. -/
theorem runEither_whenCond (len m1 yes no : Nat) (k : Cond) (f : State → State) (s : State) :
    runEither len m1 yes no (fun t => t.whenCond k f) s =
      .next (if condHolds k s.regs.f then (f (s.fetched len m1)).tick yes else (s.fetched len m1).tick no) := by
  have h : (s.fetched len m1).regs.f = s.regs.f := rfl
  unfold runEither State.whenCond
  dsimp only
  rw [h]
  by_cases hk : condHolds k s.regs.f = true
  · simp [hk]
  · simp [hk]

/-- A body whose outcome is a test: the test selects the result and the count. -/
theorem runEither_ite (len m1 yes no : Nat) (c : State → Prop) [∀ t, Decidable (c t)] (f g : State → State)
    (s : State) :
    runEither len m1 yes no (fun t => if c t then (f t, true) else (g t, false)) s =
      .next (if c (s.fetched len m1) then (f (s.fetched len m1)).tick yes else (g (s.fetched len m1)).tick no) := by
  unfold runEither
  by_cases hk : c (s.fetched len m1) <;> simp [hk]

/-! ### The next free value is that of the state -/

@[simp] theorem State.mapRegs_drawn (s : State) (f : Regs → Regs) : (s.mapRegs f).drawn = s.drawn := rfl
@[simp] theorem State.mapVdp_drawn (s : State) (f : Vdp → Vdp) : (s.mapVdp f).drawn = s.drawn := rfl
@[simp] theorem State.write_drawn (s : State) (a : Word) (v : Byte) : (s.write a v).drawn = s.drawn := rfl
@[simp] theorem State.fetched_drawn (s : State) (len m1 : Nat) : (s.fetched len m1).drawn = s.drawn := rfl

/-! ### Ports (R120, R121): a port access changes the VDP and the count of free values, nothing else -/

theorem State.portRead_frame (s : State) (p : Byte) :
    (s.portRead p).2 = { s with vdp := (s.portRead p).2.vdp, draws := (s.portRead p).2.draws } := by
  unfold State.portRead
  split
  · rfl
  split
  · rfl
  split
  · unfold State.vCounterRead
    dsimp only
    split <;> rfl
  split <;> rfl

theorem State.portWrite_frame (s : State) (p v : Byte) :
    s.portWrite p v = { s with vdp := (s.portWrite p v).vdp, draws := (s.portWrite p v).draws } := by
  unfold State.portWrite
  split
  · rfl
  split <;> rfl

/-- The VDP after a port read is one of four. -/
theorem State.portRead_vdp (s : State) (p : Byte) :
    (s.portRead p).2.vdp = s.vdp ∨ (s.portRead p).2.vdp = s.vdp.dataRead.2 ∨
      (s.portRead p).2.vdp = (s.vdp.statusRead s.drawn).2 ∨ (s.portRead p).2.vdp = s.vdp.clearLatch := by
  unfold State.portRead
  split
  · exact .inr (.inl rfl)
  split
  · exact .inr (.inr (.inl rfl))
  split
  · unfold State.vCounterRead
    dsimp only
    split
    · exact .inr (.inr (.inr rfl))
    · exact .inr (.inr (.inr rfl))
  split
  · exact .inr (.inr (.inr rfl))
  · exact .inl rfl

/-- The VDP after a port write is one of three. -/
theorem State.portWrite_vdp (s : State) (p v : Byte) :
    (s.portWrite p v).vdp = s.vdp ∨ (s.portWrite p v).vdp = s.vdp.dataWrite s.drawn v ∨
      (s.portWrite p v).vdp = s.vdp.controlWrite s.params s.cycles v := by
  unfold State.portWrite
  split
  · exact .inr (.inl rfl)
  split
  · exact .inr (.inr rfl)
  · exact .inl rfl

/-- A port access depends on the VDP, the clock, the parameters and the count of free values alone; so fetching first
changes nothing in it. -/
theorem State.portRead_fetched (s : State) (p : Byte) (len m1 : Nat) :
    (s.fetched len m1).portRead p =
      ((s.portRead p).1,
        { s.fetched len m1 with vdp := (s.portRead p).2.vdp, draws := (s.portRead p).2.draws }) := by
  unfold State.portRead
  split
  · rfl
  split
  · rfl
  split
  · unfold State.vCounterRead
    by_cases h : s.params.vcounterIsFunction = true
    · have h' : (s.fetched len m1).params.vcounterIsFunction = true := h
      simp only [h, h', if_true]; rfl
    · have h' : ¬ (s.fetched len m1).params.vcounterIsFunction = true := h
      simp only [h, h']; rfl
  split <;> rfl

theorem State.portWrite_fetched (s : State) (p v : Byte) (len m1 : Nat) :
    (s.fetched len m1).portWrite p v =
      { s.fetched len m1 with vdp := (s.portWrite p v).vdp, draws := (s.portWrite p v).draws } := by
  unfold State.portWrite
  split
  · rfl
  split <;> rfl

end Sys2Proof.Machine
end

