-- ==== Sys2Proof/Laws/PerInstr.lean ====
section
/-! SUPPORT. The per-instruction family `EncodeLength`: an instruction's encoding has the length of its row (30_encoding.md
R178), one to four bytes. One lemma per constructor of `Instr`. -/

namespace Sys2Proof.Laws

/-- The encoding of `i` has as many bytes as `i`'s row, and at most four (R178). -/
def EncodeLength.Statement (i : Instr) : Prop := (encode i).length = i.length ∧ i.length ≤ 4

theorem EncodeLength.ld_BC_nn (nn : Word) : EncodeLength.Statement (.ld_BC_nn nn) := ⟨rfl, Nat.le_of_ble_eq_true rfl⟩
theorem EncodeLength.ld_B_n (n : Byte) : EncodeLength.Statement (.ld_B_n n) := ⟨rfl, Nat.le_of_ble_eq_true rfl⟩
theorem EncodeLength.ld_C_n (n : Byte) : EncodeLength.Statement (.ld_C_n n) := ⟨rfl, Nat.le_of_ble_eq_true rfl⟩
theorem EncodeLength.djnz_e (n : Byte) : EncodeLength.Statement (.djnz_e n) := ⟨rfl, Nat.le_of_ble_eq_true rfl⟩
theorem EncodeLength.ld_DE_nn (nn : Word) : EncodeLength.Statement (.ld_DE_nn nn) := ⟨rfl, Nat.le_of_ble_eq_true rfl⟩
theorem EncodeLength.ld_D_n (n : Byte) : EncodeLength.Statement (.ld_D_n n) := ⟨rfl, Nat.le_of_ble_eq_true rfl⟩
theorem EncodeLength.jr_e (n : Byte) : EncodeLength.Statement (.jr_e n) := ⟨rfl, Nat.le_of_ble_eq_true rfl⟩
theorem EncodeLength.ld_E_n (n : Byte) : EncodeLength.Statement (.ld_E_n n) := ⟨rfl, Nat.le_of_ble_eq_true rfl⟩
theorem EncodeLength.jr_NZ_e (n : Byte) : EncodeLength.Statement (.jr_NZ_e n) := ⟨rfl, Nat.le_of_ble_eq_true rfl⟩
theorem EncodeLength.ld_HL_nn (nn : Word) : EncodeLength.Statement (.ld_HL_nn nn) := ⟨rfl, Nat.le_of_ble_eq_true rfl⟩
theorem EncodeLength.ld_AtNN_HL (nn : Word) : EncodeLength.Statement (.ld_AtNN_HL nn) := ⟨rfl, Nat.le_of_ble_eq_true rfl⟩
theorem EncodeLength.ld_H_n (n : Byte) : EncodeLength.Statement (.ld_H_n n) := ⟨rfl, Nat.le_of_ble_eq_true rfl⟩
theorem EncodeLength.jr_Z_e (n : Byte) : EncodeLength.Statement (.jr_Z_e n) := ⟨rfl, Nat.le_of_ble_eq_true rfl⟩
theorem EncodeLength.ld_HL_AtNN (nn : Word) : EncodeLength.Statement (.ld_HL_AtNN nn) := ⟨rfl, Nat.le_of_ble_eq_true rfl⟩
theorem EncodeLength.ld_L_n (n : Byte) : EncodeLength.Statement (.ld_L_n n) := ⟨rfl, Nat.le_of_ble_eq_true rfl⟩
theorem EncodeLength.jr_NC_e (n : Byte) : EncodeLength.Statement (.jr_NC_e n) := ⟨rfl, Nat.le_of_ble_eq_true rfl⟩
theorem EncodeLength.ld_SP_nn (nn : Word) : EncodeLength.Statement (.ld_SP_nn nn) := ⟨rfl, Nat.le_of_ble_eq_true rfl⟩
theorem EncodeLength.ld_AtNN_A (nn : Word) : EncodeLength.Statement (.ld_AtNN_A nn) := ⟨rfl, Nat.le_of_ble_eq_true rfl⟩
theorem EncodeLength.ld_AtHL_n (n : Byte) : EncodeLength.Statement (.ld_AtHL_n n) := ⟨rfl, Nat.le_of_ble_eq_true rfl⟩
theorem EncodeLength.jr_C_e (n : Byte) : EncodeLength.Statement (.jr_C_e n) := ⟨rfl, Nat.le_of_ble_eq_true rfl⟩
theorem EncodeLength.ld_A_AtNN (nn : Word) : EncodeLength.Statement (.ld_A_AtNN nn) := ⟨rfl, Nat.le_of_ble_eq_true rfl⟩
theorem EncodeLength.ld_A_n (n : Byte) : EncodeLength.Statement (.ld_A_n n) := ⟨rfl, Nat.le_of_ble_eq_true rfl⟩
theorem EncodeLength.jp_NZ_nn (nn : Word) : EncodeLength.Statement (.jp_NZ_nn nn) := ⟨rfl, Nat.le_of_ble_eq_true rfl⟩
theorem EncodeLength.jp_nn (nn : Word) : EncodeLength.Statement (.jp_nn nn) := ⟨rfl, Nat.le_of_ble_eq_true rfl⟩
theorem EncodeLength.call_NZ_nn (nn : Word) : EncodeLength.Statement (.call_NZ_nn nn) := ⟨rfl, Nat.le_of_ble_eq_true rfl⟩
theorem EncodeLength.add_A_n (n : Byte) : EncodeLength.Statement (.add_A_n n) := ⟨rfl, Nat.le_of_ble_eq_true rfl⟩
theorem EncodeLength.jp_Z_nn (nn : Word) : EncodeLength.Statement (.jp_Z_nn nn) := ⟨rfl, Nat.le_of_ble_eq_true rfl⟩
theorem EncodeLength.call_Z_nn (nn : Word) : EncodeLength.Statement (.call_Z_nn nn) := ⟨rfl, Nat.le_of_ble_eq_true rfl⟩
theorem EncodeLength.call_nn (nn : Word) : EncodeLength.Statement (.call_nn nn) := ⟨rfl, Nat.le_of_ble_eq_true rfl⟩
theorem EncodeLength.adc_A_n (n : Byte) : EncodeLength.Statement (.adc_A_n n) := ⟨rfl, Nat.le_of_ble_eq_true rfl⟩
theorem EncodeLength.jp_NC_nn (nn : Word) : EncodeLength.Statement (.jp_NC_nn nn) := ⟨rfl, Nat.le_of_ble_eq_true rfl⟩
theorem EncodeLength.out_PortN_A (n : Byte) : EncodeLength.Statement (.out_PortN_A n) := ⟨rfl, Nat.le_of_ble_eq_true rfl⟩
theorem EncodeLength.call_NC_nn (nn : Word) : EncodeLength.Statement (.call_NC_nn nn) := ⟨rfl, Nat.le_of_ble_eq_true rfl⟩
theorem EncodeLength.sub_n (n : Byte) : EncodeLength.Statement (.sub_n n) := ⟨rfl, Nat.le_of_ble_eq_true rfl⟩
theorem EncodeLength.jp_C_nn (nn : Word) : EncodeLength.Statement (.jp_C_nn nn) := ⟨rfl, Nat.le_of_ble_eq_true rfl⟩
theorem EncodeLength.in_A_PortN (n : Byte) : EncodeLength.Statement (.in_A_PortN n) := ⟨rfl, Nat.le_of_ble_eq_true rfl⟩
theorem EncodeLength.call_C_nn (nn : Word) : EncodeLength.Statement (.call_C_nn nn) := ⟨rfl, Nat.le_of_ble_eq_true rfl⟩
theorem EncodeLength.sbc_A_n (n : Byte) : EncodeLength.Statement (.sbc_A_n n) := ⟨rfl, Nat.le_of_ble_eq_true rfl⟩
theorem EncodeLength.jp_PO_nn (nn : Word) : EncodeLength.Statement (.jp_PO_nn nn) := ⟨rfl, Nat.le_of_ble_eq_true rfl⟩
theorem EncodeLength.call_PO_nn (nn : Word) : EncodeLength.Statement (.call_PO_nn nn) := ⟨rfl, Nat.le_of_ble_eq_true rfl⟩
theorem EncodeLength.and_n (n : Byte) : EncodeLength.Statement (.and_n n) := ⟨rfl, Nat.le_of_ble_eq_true rfl⟩
theorem EncodeLength.jp_PE_nn (nn : Word) : EncodeLength.Statement (.jp_PE_nn nn) := ⟨rfl, Nat.le_of_ble_eq_true rfl⟩
theorem EncodeLength.call_PE_nn (nn : Word) : EncodeLength.Statement (.call_PE_nn nn) := ⟨rfl, Nat.le_of_ble_eq_true rfl⟩
theorem EncodeLength.xor_n (n : Byte) : EncodeLength.Statement (.xor_n n) := ⟨rfl, Nat.le_of_ble_eq_true rfl⟩
theorem EncodeLength.jp_P_nn (nn : Word) : EncodeLength.Statement (.jp_P_nn nn) := ⟨rfl, Nat.le_of_ble_eq_true rfl⟩
theorem EncodeLength.call_P_nn (nn : Word) : EncodeLength.Statement (.call_P_nn nn) := ⟨rfl, Nat.le_of_ble_eq_true rfl⟩
theorem EncodeLength.or_n (n : Byte) : EncodeLength.Statement (.or_n n) := ⟨rfl, Nat.le_of_ble_eq_true rfl⟩
theorem EncodeLength.jp_M_nn (nn : Word) : EncodeLength.Statement (.jp_M_nn nn) := ⟨rfl, Nat.le_of_ble_eq_true rfl⟩
theorem EncodeLength.call_M_nn (nn : Word) : EncodeLength.Statement (.call_M_nn nn) := ⟨rfl, Nat.le_of_ble_eq_true rfl⟩
theorem EncodeLength.cp_n (n : Byte) : EncodeLength.Statement (.cp_n n) := ⟨rfl, Nat.le_of_ble_eq_true rfl⟩
theorem EncodeLength.ld_AtNN_BC (nn : Word) : EncodeLength.Statement (.ld_AtNN_BC nn) := ⟨rfl, Nat.le_of_ble_eq_true rfl⟩
theorem EncodeLength.ld_BC_AtNN (nn : Word) : EncodeLength.Statement (.ld_BC_AtNN nn) := ⟨rfl, Nat.le_of_ble_eq_true rfl⟩
theorem EncodeLength.ld_AtNN_DE (nn : Word) : EncodeLength.Statement (.ld_AtNN_DE nn) := ⟨rfl, Nat.le_of_ble_eq_true rfl⟩
theorem EncodeLength.ld_DE_AtNN (nn : Word) : EncodeLength.Statement (.ld_DE_AtNN nn) := ⟨rfl, Nat.le_of_ble_eq_true rfl⟩
theorem EncodeLength.ld_AtNN_HL_ed (nn : Word) : EncodeLength.Statement (.ld_AtNN_HL_ed nn) := ⟨rfl, Nat.le_of_ble_eq_true rfl⟩
theorem EncodeLength.ld_HL_AtNN_ed (nn : Word) : EncodeLength.Statement (.ld_HL_AtNN_ed nn) := ⟨rfl, Nat.le_of_ble_eq_true rfl⟩
theorem EncodeLength.ld_AtNN_SP (nn : Word) : EncodeLength.Statement (.ld_AtNN_SP nn) := ⟨rfl, Nat.le_of_ble_eq_true rfl⟩
theorem EncodeLength.ld_SP_AtNN (nn : Word) : EncodeLength.Statement (.ld_SP_AtNN nn) := ⟨rfl, Nat.le_of_ble_eq_true rfl⟩
theorem EncodeLength.ld_IX_nn (nn : Word) : EncodeLength.Statement (.ld_IX_nn nn) := ⟨rfl, Nat.le_of_ble_eq_true rfl⟩
theorem EncodeLength.ld_AtNN_IX (nn : Word) : EncodeLength.Statement (.ld_AtNN_IX nn) := ⟨rfl, Nat.le_of_ble_eq_true rfl⟩
theorem EncodeLength.ld_IX_AtNN (nn : Word) : EncodeLength.Statement (.ld_IX_AtNN nn) := ⟨rfl, Nat.le_of_ble_eq_true rfl⟩
theorem EncodeLength.inc_AtIXd (d : Byte) : EncodeLength.Statement (.inc_AtIXd d) := ⟨rfl, Nat.le_of_ble_eq_true rfl⟩
theorem EncodeLength.dec_AtIXd (d : Byte) : EncodeLength.Statement (.dec_AtIXd d) := ⟨rfl, Nat.le_of_ble_eq_true rfl⟩
theorem EncodeLength.ld_AtIXd_n (d n : Byte) : EncodeLength.Statement (.ld_AtIXd_n d n) := ⟨rfl, Nat.le_of_ble_eq_true rfl⟩
theorem EncodeLength.ld_B_AtIXd (d : Byte) : EncodeLength.Statement (.ld_B_AtIXd d) := ⟨rfl, Nat.le_of_ble_eq_true rfl⟩
theorem EncodeLength.ld_AtIXd_B (d : Byte) : EncodeLength.Statement (.ld_AtIXd_B d) := ⟨rfl, Nat.le_of_ble_eq_true rfl⟩
theorem EncodeLength.ld_C_AtIXd (d : Byte) : EncodeLength.Statement (.ld_C_AtIXd d) := ⟨rfl, Nat.le_of_ble_eq_true rfl⟩
theorem EncodeLength.ld_AtIXd_C (d : Byte) : EncodeLength.Statement (.ld_AtIXd_C d) := ⟨rfl, Nat.le_of_ble_eq_true rfl⟩
theorem EncodeLength.ld_D_AtIXd (d : Byte) : EncodeLength.Statement (.ld_D_AtIXd d) := ⟨rfl, Nat.le_of_ble_eq_true rfl⟩
theorem EncodeLength.ld_AtIXd_D (d : Byte) : EncodeLength.Statement (.ld_AtIXd_D d) := ⟨rfl, Nat.le_of_ble_eq_true rfl⟩
theorem EncodeLength.ld_E_AtIXd (d : Byte) : EncodeLength.Statement (.ld_E_AtIXd d) := ⟨rfl, Nat.le_of_ble_eq_true rfl⟩
theorem EncodeLength.ld_AtIXd_E (d : Byte) : EncodeLength.Statement (.ld_AtIXd_E d) := ⟨rfl, Nat.le_of_ble_eq_true rfl⟩
theorem EncodeLength.ld_H_AtIXd (d : Byte) : EncodeLength.Statement (.ld_H_AtIXd d) := ⟨rfl, Nat.le_of_ble_eq_true rfl⟩
theorem EncodeLength.ld_AtIXd_H (d : Byte) : EncodeLength.Statement (.ld_AtIXd_H d) := ⟨rfl, Nat.le_of_ble_eq_true rfl⟩
theorem EncodeLength.ld_L_AtIXd (d : Byte) : EncodeLength.Statement (.ld_L_AtIXd d) := ⟨rfl, Nat.le_of_ble_eq_true rfl⟩
theorem EncodeLength.ld_AtIXd_L (d : Byte) : EncodeLength.Statement (.ld_AtIXd_L d) := ⟨rfl, Nat.le_of_ble_eq_true rfl⟩
theorem EncodeLength.ld_A_AtIXd (d : Byte) : EncodeLength.Statement (.ld_A_AtIXd d) := ⟨rfl, Nat.le_of_ble_eq_true rfl⟩
theorem EncodeLength.ld_AtIXd_A (d : Byte) : EncodeLength.Statement (.ld_AtIXd_A d) := ⟨rfl, Nat.le_of_ble_eq_true rfl⟩
theorem EncodeLength.add_A_AtIXd (d : Byte) : EncodeLength.Statement (.add_A_AtIXd d) := ⟨rfl, Nat.le_of_ble_eq_true rfl⟩
theorem EncodeLength.adc_A_AtIXd (d : Byte) : EncodeLength.Statement (.adc_A_AtIXd d) := ⟨rfl, Nat.le_of_ble_eq_true rfl⟩
theorem EncodeLength.sub_AtIXd (d : Byte) : EncodeLength.Statement (.sub_AtIXd d) := ⟨rfl, Nat.le_of_ble_eq_true rfl⟩
theorem EncodeLength.sbc_A_AtIXd (d : Byte) : EncodeLength.Statement (.sbc_A_AtIXd d) := ⟨rfl, Nat.le_of_ble_eq_true rfl⟩
theorem EncodeLength.and_AtIXd (d : Byte) : EncodeLength.Statement (.and_AtIXd d) := ⟨rfl, Nat.le_of_ble_eq_true rfl⟩
theorem EncodeLength.xor_AtIXd (d : Byte) : EncodeLength.Statement (.xor_AtIXd d) := ⟨rfl, Nat.le_of_ble_eq_true rfl⟩
theorem EncodeLength.or_AtIXd (d : Byte) : EncodeLength.Statement (.or_AtIXd d) := ⟨rfl, Nat.le_of_ble_eq_true rfl⟩
theorem EncodeLength.cp_AtIXd (d : Byte) : EncodeLength.Statement (.cp_AtIXd d) := ⟨rfl, Nat.le_of_ble_eq_true rfl⟩
theorem EncodeLength.rlc_AtIXd (d : Byte) : EncodeLength.Statement (.rlc_AtIXd d) := ⟨rfl, Nat.le_of_ble_eq_true rfl⟩
theorem EncodeLength.rrc_AtIXd (d : Byte) : EncodeLength.Statement (.rrc_AtIXd d) := ⟨rfl, Nat.le_of_ble_eq_true rfl⟩
theorem EncodeLength.rl_AtIXd (d : Byte) : EncodeLength.Statement (.rl_AtIXd d) := ⟨rfl, Nat.le_of_ble_eq_true rfl⟩
theorem EncodeLength.rr_AtIXd (d : Byte) : EncodeLength.Statement (.rr_AtIXd d) := ⟨rfl, Nat.le_of_ble_eq_true rfl⟩
theorem EncodeLength.sla_AtIXd (d : Byte) : EncodeLength.Statement (.sla_AtIXd d) := ⟨rfl, Nat.le_of_ble_eq_true rfl⟩
theorem EncodeLength.sra_AtIXd (d : Byte) : EncodeLength.Statement (.sra_AtIXd d) := ⟨rfl, Nat.le_of_ble_eq_true rfl⟩
theorem EncodeLength.sll_AtIXd (d : Byte) : EncodeLength.Statement (.sll_AtIXd d) := ⟨rfl, Nat.le_of_ble_eq_true rfl⟩
theorem EncodeLength.srl_AtIXd (d : Byte) : EncodeLength.Statement (.srl_AtIXd d) := ⟨rfl, Nat.le_of_ble_eq_true rfl⟩
theorem EncodeLength.bit_0_AtIXd (d : Byte) (z : BitVec 3) : EncodeLength.Statement (.bit_0_AtIXd d z) := ⟨rfl, Nat.le_of_ble_eq_true rfl⟩
theorem EncodeLength.bit_1_AtIXd (d : Byte) (z : BitVec 3) : EncodeLength.Statement (.bit_1_AtIXd d z) := ⟨rfl, Nat.le_of_ble_eq_true rfl⟩
theorem EncodeLength.bit_2_AtIXd (d : Byte) (z : BitVec 3) : EncodeLength.Statement (.bit_2_AtIXd d z) := ⟨rfl, Nat.le_of_ble_eq_true rfl⟩
theorem EncodeLength.bit_3_AtIXd (d : Byte) (z : BitVec 3) : EncodeLength.Statement (.bit_3_AtIXd d z) := ⟨rfl, Nat.le_of_ble_eq_true rfl⟩
theorem EncodeLength.bit_4_AtIXd (d : Byte) (z : BitVec 3) : EncodeLength.Statement (.bit_4_AtIXd d z) := ⟨rfl, Nat.le_of_ble_eq_true rfl⟩
theorem EncodeLength.bit_5_AtIXd (d : Byte) (z : BitVec 3) : EncodeLength.Statement (.bit_5_AtIXd d z) := ⟨rfl, Nat.le_of_ble_eq_true rfl⟩
theorem EncodeLength.bit_6_AtIXd (d : Byte) (z : BitVec 3) : EncodeLength.Statement (.bit_6_AtIXd d z) := ⟨rfl, Nat.le_of_ble_eq_true rfl⟩
theorem EncodeLength.bit_7_AtIXd (d : Byte) (z : BitVec 3) : EncodeLength.Statement (.bit_7_AtIXd d z) := ⟨rfl, Nat.le_of_ble_eq_true rfl⟩
theorem EncodeLength.res_0_AtIXd (d : Byte) : EncodeLength.Statement (.res_0_AtIXd d) := ⟨rfl, Nat.le_of_ble_eq_true rfl⟩
theorem EncodeLength.res_1_AtIXd (d : Byte) : EncodeLength.Statement (.res_1_AtIXd d) := ⟨rfl, Nat.le_of_ble_eq_true rfl⟩
theorem EncodeLength.res_2_AtIXd (d : Byte) : EncodeLength.Statement (.res_2_AtIXd d) := ⟨rfl, Nat.le_of_ble_eq_true rfl⟩
theorem EncodeLength.res_3_AtIXd (d : Byte) : EncodeLength.Statement (.res_3_AtIXd d) := ⟨rfl, Nat.le_of_ble_eq_true rfl⟩
theorem EncodeLength.res_4_AtIXd (d : Byte) : EncodeLength.Statement (.res_4_AtIXd d) := ⟨rfl, Nat.le_of_ble_eq_true rfl⟩
theorem EncodeLength.res_5_AtIXd (d : Byte) : EncodeLength.Statement (.res_5_AtIXd d) := ⟨rfl, Nat.le_of_ble_eq_true rfl⟩
theorem EncodeLength.res_6_AtIXd (d : Byte) : EncodeLength.Statement (.res_6_AtIXd d) := ⟨rfl, Nat.le_of_ble_eq_true rfl⟩
theorem EncodeLength.res_7_AtIXd (d : Byte) : EncodeLength.Statement (.res_7_AtIXd d) := ⟨rfl, Nat.le_of_ble_eq_true rfl⟩
theorem EncodeLength.set_0_AtIXd (d : Byte) : EncodeLength.Statement (.set_0_AtIXd d) := ⟨rfl, Nat.le_of_ble_eq_true rfl⟩
theorem EncodeLength.set_1_AtIXd (d : Byte) : EncodeLength.Statement (.set_1_AtIXd d) := ⟨rfl, Nat.le_of_ble_eq_true rfl⟩
theorem EncodeLength.set_2_AtIXd (d : Byte) : EncodeLength.Statement (.set_2_AtIXd d) := ⟨rfl, Nat.le_of_ble_eq_true rfl⟩
theorem EncodeLength.set_3_AtIXd (d : Byte) : EncodeLength.Statement (.set_3_AtIXd d) := ⟨rfl, Nat.le_of_ble_eq_true rfl⟩
theorem EncodeLength.set_4_AtIXd (d : Byte) : EncodeLength.Statement (.set_4_AtIXd d) := ⟨rfl, Nat.le_of_ble_eq_true rfl⟩
theorem EncodeLength.set_5_AtIXd (d : Byte) : EncodeLength.Statement (.set_5_AtIXd d) := ⟨rfl, Nat.le_of_ble_eq_true rfl⟩
theorem EncodeLength.set_6_AtIXd (d : Byte) : EncodeLength.Statement (.set_6_AtIXd d) := ⟨rfl, Nat.le_of_ble_eq_true rfl⟩
theorem EncodeLength.set_7_AtIXd (d : Byte) : EncodeLength.Statement (.set_7_AtIXd d) := ⟨rfl, Nat.le_of_ble_eq_true rfl⟩
theorem EncodeLength.ld_IY_nn (nn : Word) : EncodeLength.Statement (.ld_IY_nn nn) := ⟨rfl, Nat.le_of_ble_eq_true rfl⟩
theorem EncodeLength.ld_AtNN_IY (nn : Word) : EncodeLength.Statement (.ld_AtNN_IY nn) := ⟨rfl, Nat.le_of_ble_eq_true rfl⟩
theorem EncodeLength.ld_IY_AtNN (nn : Word) : EncodeLength.Statement (.ld_IY_AtNN nn) := ⟨rfl, Nat.le_of_ble_eq_true rfl⟩
theorem EncodeLength.inc_AtIYd (d : Byte) : EncodeLength.Statement (.inc_AtIYd d) := ⟨rfl, Nat.le_of_ble_eq_true rfl⟩
theorem EncodeLength.dec_AtIYd (d : Byte) : EncodeLength.Statement (.dec_AtIYd d) := ⟨rfl, Nat.le_of_ble_eq_true rfl⟩
theorem EncodeLength.ld_AtIYd_n (d n : Byte) : EncodeLength.Statement (.ld_AtIYd_n d n) := ⟨rfl, Nat.le_of_ble_eq_true rfl⟩
theorem EncodeLength.ld_B_AtIYd (d : Byte) : EncodeLength.Statement (.ld_B_AtIYd d) := ⟨rfl, Nat.le_of_ble_eq_true rfl⟩
theorem EncodeLength.ld_AtIYd_B (d : Byte) : EncodeLength.Statement (.ld_AtIYd_B d) := ⟨rfl, Nat.le_of_ble_eq_true rfl⟩
theorem EncodeLength.ld_C_AtIYd (d : Byte) : EncodeLength.Statement (.ld_C_AtIYd d) := ⟨rfl, Nat.le_of_ble_eq_true rfl⟩
theorem EncodeLength.ld_AtIYd_C (d : Byte) : EncodeLength.Statement (.ld_AtIYd_C d) := ⟨rfl, Nat.le_of_ble_eq_true rfl⟩
theorem EncodeLength.ld_D_AtIYd (d : Byte) : EncodeLength.Statement (.ld_D_AtIYd d) := ⟨rfl, Nat.le_of_ble_eq_true rfl⟩
theorem EncodeLength.ld_AtIYd_D (d : Byte) : EncodeLength.Statement (.ld_AtIYd_D d) := ⟨rfl, Nat.le_of_ble_eq_true rfl⟩
theorem EncodeLength.ld_E_AtIYd (d : Byte) : EncodeLength.Statement (.ld_E_AtIYd d) := ⟨rfl, Nat.le_of_ble_eq_true rfl⟩
theorem EncodeLength.ld_AtIYd_E (d : Byte) : EncodeLength.Statement (.ld_AtIYd_E d) := ⟨rfl, Nat.le_of_ble_eq_true rfl⟩
theorem EncodeLength.ld_H_AtIYd (d : Byte) : EncodeLength.Statement (.ld_H_AtIYd d) := ⟨rfl, Nat.le_of_ble_eq_true rfl⟩
theorem EncodeLength.ld_AtIYd_H (d : Byte) : EncodeLength.Statement (.ld_AtIYd_H d) := ⟨rfl, Nat.le_of_ble_eq_true rfl⟩
theorem EncodeLength.ld_L_AtIYd (d : Byte) : EncodeLength.Statement (.ld_L_AtIYd d) := ⟨rfl, Nat.le_of_ble_eq_true rfl⟩
theorem EncodeLength.ld_AtIYd_L (d : Byte) : EncodeLength.Statement (.ld_AtIYd_L d) := ⟨rfl, Nat.le_of_ble_eq_true rfl⟩
theorem EncodeLength.ld_A_AtIYd (d : Byte) : EncodeLength.Statement (.ld_A_AtIYd d) := ⟨rfl, Nat.le_of_ble_eq_true rfl⟩
theorem EncodeLength.ld_AtIYd_A (d : Byte) : EncodeLength.Statement (.ld_AtIYd_A d) := ⟨rfl, Nat.le_of_ble_eq_true rfl⟩
theorem EncodeLength.add_A_AtIYd (d : Byte) : EncodeLength.Statement (.add_A_AtIYd d) := ⟨rfl, Nat.le_of_ble_eq_true rfl⟩
theorem EncodeLength.adc_A_AtIYd (d : Byte) : EncodeLength.Statement (.adc_A_AtIYd d) := ⟨rfl, Nat.le_of_ble_eq_true rfl⟩
theorem EncodeLength.sub_AtIYd (d : Byte) : EncodeLength.Statement (.sub_AtIYd d) := ⟨rfl, Nat.le_of_ble_eq_true rfl⟩
theorem EncodeLength.sbc_A_AtIYd (d : Byte) : EncodeLength.Statement (.sbc_A_AtIYd d) := ⟨rfl, Nat.le_of_ble_eq_true rfl⟩
theorem EncodeLength.and_AtIYd (d : Byte) : EncodeLength.Statement (.and_AtIYd d) := ⟨rfl, Nat.le_of_ble_eq_true rfl⟩
theorem EncodeLength.xor_AtIYd (d : Byte) : EncodeLength.Statement (.xor_AtIYd d) := ⟨rfl, Nat.le_of_ble_eq_true rfl⟩
theorem EncodeLength.or_AtIYd (d : Byte) : EncodeLength.Statement (.or_AtIYd d) := ⟨rfl, Nat.le_of_ble_eq_true rfl⟩
theorem EncodeLength.cp_AtIYd (d : Byte) : EncodeLength.Statement (.cp_AtIYd d) := ⟨rfl, Nat.le_of_ble_eq_true rfl⟩
theorem EncodeLength.rlc_AtIYd (d : Byte) : EncodeLength.Statement (.rlc_AtIYd d) := ⟨rfl, Nat.le_of_ble_eq_true rfl⟩
theorem EncodeLength.rrc_AtIYd (d : Byte) : EncodeLength.Statement (.rrc_AtIYd d) := ⟨rfl, Nat.le_of_ble_eq_true rfl⟩
theorem EncodeLength.rl_AtIYd (d : Byte) : EncodeLength.Statement (.rl_AtIYd d) := ⟨rfl, Nat.le_of_ble_eq_true rfl⟩
theorem EncodeLength.rr_AtIYd (d : Byte) : EncodeLength.Statement (.rr_AtIYd d) := ⟨rfl, Nat.le_of_ble_eq_true rfl⟩
theorem EncodeLength.sla_AtIYd (d : Byte) : EncodeLength.Statement (.sla_AtIYd d) := ⟨rfl, Nat.le_of_ble_eq_true rfl⟩
theorem EncodeLength.sra_AtIYd (d : Byte) : EncodeLength.Statement (.sra_AtIYd d) := ⟨rfl, Nat.le_of_ble_eq_true rfl⟩
theorem EncodeLength.sll_AtIYd (d : Byte) : EncodeLength.Statement (.sll_AtIYd d) := ⟨rfl, Nat.le_of_ble_eq_true rfl⟩
theorem EncodeLength.srl_AtIYd (d : Byte) : EncodeLength.Statement (.srl_AtIYd d) := ⟨rfl, Nat.le_of_ble_eq_true rfl⟩
theorem EncodeLength.bit_0_AtIYd (d : Byte) (z : BitVec 3) : EncodeLength.Statement (.bit_0_AtIYd d z) := ⟨rfl, Nat.le_of_ble_eq_true rfl⟩
theorem EncodeLength.bit_1_AtIYd (d : Byte) (z : BitVec 3) : EncodeLength.Statement (.bit_1_AtIYd d z) := ⟨rfl, Nat.le_of_ble_eq_true rfl⟩
theorem EncodeLength.bit_2_AtIYd (d : Byte) (z : BitVec 3) : EncodeLength.Statement (.bit_2_AtIYd d z) := ⟨rfl, Nat.le_of_ble_eq_true rfl⟩
theorem EncodeLength.bit_3_AtIYd (d : Byte) (z : BitVec 3) : EncodeLength.Statement (.bit_3_AtIYd d z) := ⟨rfl, Nat.le_of_ble_eq_true rfl⟩
theorem EncodeLength.bit_4_AtIYd (d : Byte) (z : BitVec 3) : EncodeLength.Statement (.bit_4_AtIYd d z) := ⟨rfl, Nat.le_of_ble_eq_true rfl⟩
theorem EncodeLength.bit_5_AtIYd (d : Byte) (z : BitVec 3) : EncodeLength.Statement (.bit_5_AtIYd d z) := ⟨rfl, Nat.le_of_ble_eq_true rfl⟩
theorem EncodeLength.bit_6_AtIYd (d : Byte) (z : BitVec 3) : EncodeLength.Statement (.bit_6_AtIYd d z) := ⟨rfl, Nat.le_of_ble_eq_true rfl⟩
theorem EncodeLength.bit_7_AtIYd (d : Byte) (z : BitVec 3) : EncodeLength.Statement (.bit_7_AtIYd d z) := ⟨rfl, Nat.le_of_ble_eq_true rfl⟩
theorem EncodeLength.res_0_AtIYd (d : Byte) : EncodeLength.Statement (.res_0_AtIYd d) := ⟨rfl, Nat.le_of_ble_eq_true rfl⟩
theorem EncodeLength.res_1_AtIYd (d : Byte) : EncodeLength.Statement (.res_1_AtIYd d) := ⟨rfl, Nat.le_of_ble_eq_true rfl⟩
theorem EncodeLength.res_2_AtIYd (d : Byte) : EncodeLength.Statement (.res_2_AtIYd d) := ⟨rfl, Nat.le_of_ble_eq_true rfl⟩
theorem EncodeLength.res_3_AtIYd (d : Byte) : EncodeLength.Statement (.res_3_AtIYd d) := ⟨rfl, Nat.le_of_ble_eq_true rfl⟩
theorem EncodeLength.res_4_AtIYd (d : Byte) : EncodeLength.Statement (.res_4_AtIYd d) := ⟨rfl, Nat.le_of_ble_eq_true rfl⟩
theorem EncodeLength.res_5_AtIYd (d : Byte) : EncodeLength.Statement (.res_5_AtIYd d) := ⟨rfl, Nat.le_of_ble_eq_true rfl⟩
theorem EncodeLength.res_6_AtIYd (d : Byte) : EncodeLength.Statement (.res_6_AtIYd d) := ⟨rfl, Nat.le_of_ble_eq_true rfl⟩
theorem EncodeLength.res_7_AtIYd (d : Byte) : EncodeLength.Statement (.res_7_AtIYd d) := ⟨rfl, Nat.le_of_ble_eq_true rfl⟩
theorem EncodeLength.set_0_AtIYd (d : Byte) : EncodeLength.Statement (.set_0_AtIYd d) := ⟨rfl, Nat.le_of_ble_eq_true rfl⟩
theorem EncodeLength.set_1_AtIYd (d : Byte) : EncodeLength.Statement (.set_1_AtIYd d) := ⟨rfl, Nat.le_of_ble_eq_true rfl⟩
theorem EncodeLength.set_2_AtIYd (d : Byte) : EncodeLength.Statement (.set_2_AtIYd d) := ⟨rfl, Nat.le_of_ble_eq_true rfl⟩
theorem EncodeLength.set_3_AtIYd (d : Byte) : EncodeLength.Statement (.set_3_AtIYd d) := ⟨rfl, Nat.le_of_ble_eq_true rfl⟩
theorem EncodeLength.set_4_AtIYd (d : Byte) : EncodeLength.Statement (.set_4_AtIYd d) := ⟨rfl, Nat.le_of_ble_eq_true rfl⟩
theorem EncodeLength.set_5_AtIYd (d : Byte) : EncodeLength.Statement (.set_5_AtIYd d) := ⟨rfl, Nat.le_of_ble_eq_true rfl⟩
theorem EncodeLength.set_6_AtIYd (d : Byte) : EncodeLength.Statement (.set_6_AtIYd d) := ⟨rfl, Nat.le_of_ble_eq_true rfl⟩
theorem EncodeLength.set_7_AtIYd (d : Byte) : EncodeLength.Statement (.set_7_AtIYd d) := ⟨rfl, Nat.le_of_ble_eq_true rfl⟩
theorem EncodeLength.nop : EncodeLength.Statement .nop := ⟨rfl, Nat.le_of_ble_eq_true rfl⟩
theorem EncodeLength.ld_AtBC_A : EncodeLength.Statement .ld_AtBC_A := ⟨rfl, Nat.le_of_ble_eq_true rfl⟩
theorem EncodeLength.inc_BC : EncodeLength.Statement .inc_BC := ⟨rfl, Nat.le_of_ble_eq_true rfl⟩
theorem EncodeLength.inc_B : EncodeLength.Statement .inc_B := ⟨rfl, Nat.le_of_ble_eq_true rfl⟩
theorem EncodeLength.dec_B : EncodeLength.Statement .dec_B := ⟨rfl, Nat.le_of_ble_eq_true rfl⟩
theorem EncodeLength.rlca : EncodeLength.Statement .rlca := ⟨rfl, Nat.le_of_ble_eq_true rfl⟩
theorem EncodeLength.ex_AF_AF : EncodeLength.Statement .ex_AF_AF := ⟨rfl, Nat.le_of_ble_eq_true rfl⟩
theorem EncodeLength.add_HL_BC : EncodeLength.Statement .add_HL_BC := ⟨rfl, Nat.le_of_ble_eq_true rfl⟩
theorem EncodeLength.ld_A_AtBC : EncodeLength.Statement .ld_A_AtBC := ⟨rfl, Nat.le_of_ble_eq_true rfl⟩
theorem EncodeLength.dec_BC : EncodeLength.Statement .dec_BC := ⟨rfl, Nat.le_of_ble_eq_true rfl⟩
theorem EncodeLength.inc_C : EncodeLength.Statement .inc_C := ⟨rfl, Nat.le_of_ble_eq_true rfl⟩
theorem EncodeLength.dec_C : EncodeLength.Statement .dec_C := ⟨rfl, Nat.le_of_ble_eq_true rfl⟩
theorem EncodeLength.rrca : EncodeLength.Statement .rrca := ⟨rfl, Nat.le_of_ble_eq_true rfl⟩
theorem EncodeLength.ld_AtDE_A : EncodeLength.Statement .ld_AtDE_A := ⟨rfl, Nat.le_of_ble_eq_true rfl⟩
theorem EncodeLength.inc_DE : EncodeLength.Statement .inc_DE := ⟨rfl, Nat.le_of_ble_eq_true rfl⟩
theorem EncodeLength.inc_D : EncodeLength.Statement .inc_D := ⟨rfl, Nat.le_of_ble_eq_true rfl⟩
theorem EncodeLength.dec_D : EncodeLength.Statement .dec_D := ⟨rfl, Nat.le_of_ble_eq_true rfl⟩
theorem EncodeLength.rla : EncodeLength.Statement .rla := ⟨rfl, Nat.le_of_ble_eq_true rfl⟩
theorem EncodeLength.add_HL_DE : EncodeLength.Statement .add_HL_DE := ⟨rfl, Nat.le_of_ble_eq_true rfl⟩
theorem EncodeLength.ld_A_AtDE : EncodeLength.Statement .ld_A_AtDE := ⟨rfl, Nat.le_of_ble_eq_true rfl⟩
theorem EncodeLength.dec_DE : EncodeLength.Statement .dec_DE := ⟨rfl, Nat.le_of_ble_eq_true rfl⟩
theorem EncodeLength.inc_E : EncodeLength.Statement .inc_E := ⟨rfl, Nat.le_of_ble_eq_true rfl⟩
theorem EncodeLength.dec_E : EncodeLength.Statement .dec_E := ⟨rfl, Nat.le_of_ble_eq_true rfl⟩
theorem EncodeLength.rra : EncodeLength.Statement .rra := ⟨rfl, Nat.le_of_ble_eq_true rfl⟩
theorem EncodeLength.inc_HL : EncodeLength.Statement .inc_HL := ⟨rfl, Nat.le_of_ble_eq_true rfl⟩
theorem EncodeLength.inc_H : EncodeLength.Statement .inc_H := ⟨rfl, Nat.le_of_ble_eq_true rfl⟩
theorem EncodeLength.dec_H : EncodeLength.Statement .dec_H := ⟨rfl, Nat.le_of_ble_eq_true rfl⟩
theorem EncodeLength.daa : EncodeLength.Statement .daa := ⟨rfl, Nat.le_of_ble_eq_true rfl⟩
theorem EncodeLength.add_HL_HL : EncodeLength.Statement .add_HL_HL := ⟨rfl, Nat.le_of_ble_eq_true rfl⟩
theorem EncodeLength.dec_HL : EncodeLength.Statement .dec_HL := ⟨rfl, Nat.le_of_ble_eq_true rfl⟩
theorem EncodeLength.inc_L : EncodeLength.Statement .inc_L := ⟨rfl, Nat.le_of_ble_eq_true rfl⟩
theorem EncodeLength.dec_L : EncodeLength.Statement .dec_L := ⟨rfl, Nat.le_of_ble_eq_true rfl⟩
theorem EncodeLength.cpl : EncodeLength.Statement .cpl := ⟨rfl, Nat.le_of_ble_eq_true rfl⟩
theorem EncodeLength.inc_SP : EncodeLength.Statement .inc_SP := ⟨rfl, Nat.le_of_ble_eq_true rfl⟩
theorem EncodeLength.inc_AtHL : EncodeLength.Statement .inc_AtHL := ⟨rfl, Nat.le_of_ble_eq_true rfl⟩
theorem EncodeLength.dec_AtHL : EncodeLength.Statement .dec_AtHL := ⟨rfl, Nat.le_of_ble_eq_true rfl⟩
theorem EncodeLength.scf : EncodeLength.Statement .scf := ⟨rfl, Nat.le_of_ble_eq_true rfl⟩
theorem EncodeLength.add_HL_SP : EncodeLength.Statement .add_HL_SP := ⟨rfl, Nat.le_of_ble_eq_true rfl⟩
theorem EncodeLength.dec_SP : EncodeLength.Statement .dec_SP := ⟨rfl, Nat.le_of_ble_eq_true rfl⟩
theorem EncodeLength.inc_A : EncodeLength.Statement .inc_A := ⟨rfl, Nat.le_of_ble_eq_true rfl⟩
theorem EncodeLength.dec_A : EncodeLength.Statement .dec_A := ⟨rfl, Nat.le_of_ble_eq_true rfl⟩
theorem EncodeLength.ccf : EncodeLength.Statement .ccf := ⟨rfl, Nat.le_of_ble_eq_true rfl⟩
theorem EncodeLength.ld_B_B : EncodeLength.Statement .ld_B_B := ⟨rfl, Nat.le_of_ble_eq_true rfl⟩
theorem EncodeLength.ld_B_C : EncodeLength.Statement .ld_B_C := ⟨rfl, Nat.le_of_ble_eq_true rfl⟩
theorem EncodeLength.ld_B_D : EncodeLength.Statement .ld_B_D := ⟨rfl, Nat.le_of_ble_eq_true rfl⟩
theorem EncodeLength.ld_B_E : EncodeLength.Statement .ld_B_E := ⟨rfl, Nat.le_of_ble_eq_true rfl⟩
theorem EncodeLength.ld_B_H : EncodeLength.Statement .ld_B_H := ⟨rfl, Nat.le_of_ble_eq_true rfl⟩
theorem EncodeLength.ld_B_L : EncodeLength.Statement .ld_B_L := ⟨rfl, Nat.le_of_ble_eq_true rfl⟩
theorem EncodeLength.ld_B_AtHL : EncodeLength.Statement .ld_B_AtHL := ⟨rfl, Nat.le_of_ble_eq_true rfl⟩
theorem EncodeLength.ld_B_A : EncodeLength.Statement .ld_B_A := ⟨rfl, Nat.le_of_ble_eq_true rfl⟩
theorem EncodeLength.ld_C_B : EncodeLength.Statement .ld_C_B := ⟨rfl, Nat.le_of_ble_eq_true rfl⟩
theorem EncodeLength.ld_C_C : EncodeLength.Statement .ld_C_C := ⟨rfl, Nat.le_of_ble_eq_true rfl⟩
theorem EncodeLength.ld_C_D : EncodeLength.Statement .ld_C_D := ⟨rfl, Nat.le_of_ble_eq_true rfl⟩
theorem EncodeLength.ld_C_E : EncodeLength.Statement .ld_C_E := ⟨rfl, Nat.le_of_ble_eq_true rfl⟩
theorem EncodeLength.ld_C_H : EncodeLength.Statement .ld_C_H := ⟨rfl, Nat.le_of_ble_eq_true rfl⟩
theorem EncodeLength.ld_C_L : EncodeLength.Statement .ld_C_L := ⟨rfl, Nat.le_of_ble_eq_true rfl⟩
theorem EncodeLength.ld_C_AtHL : EncodeLength.Statement .ld_C_AtHL := ⟨rfl, Nat.le_of_ble_eq_true rfl⟩
theorem EncodeLength.ld_C_A : EncodeLength.Statement .ld_C_A := ⟨rfl, Nat.le_of_ble_eq_true rfl⟩
theorem EncodeLength.ld_D_B : EncodeLength.Statement .ld_D_B := ⟨rfl, Nat.le_of_ble_eq_true rfl⟩
theorem EncodeLength.ld_D_C : EncodeLength.Statement .ld_D_C := ⟨rfl, Nat.le_of_ble_eq_true rfl⟩
theorem EncodeLength.ld_D_D : EncodeLength.Statement .ld_D_D := ⟨rfl, Nat.le_of_ble_eq_true rfl⟩
theorem EncodeLength.ld_D_E : EncodeLength.Statement .ld_D_E := ⟨rfl, Nat.le_of_ble_eq_true rfl⟩
theorem EncodeLength.ld_D_H : EncodeLength.Statement .ld_D_H := ⟨rfl, Nat.le_of_ble_eq_true rfl⟩
theorem EncodeLength.ld_D_L : EncodeLength.Statement .ld_D_L := ⟨rfl, Nat.le_of_ble_eq_true rfl⟩
theorem EncodeLength.ld_D_AtHL : EncodeLength.Statement .ld_D_AtHL := ⟨rfl, Nat.le_of_ble_eq_true rfl⟩
theorem EncodeLength.ld_D_A : EncodeLength.Statement .ld_D_A := ⟨rfl, Nat.le_of_ble_eq_true rfl⟩
theorem EncodeLength.ld_E_B : EncodeLength.Statement .ld_E_B := ⟨rfl, Nat.le_of_ble_eq_true rfl⟩
theorem EncodeLength.ld_E_C : EncodeLength.Statement .ld_E_C := ⟨rfl, Nat.le_of_ble_eq_true rfl⟩
theorem EncodeLength.ld_E_D : EncodeLength.Statement .ld_E_D := ⟨rfl, Nat.le_of_ble_eq_true rfl⟩
theorem EncodeLength.ld_E_E : EncodeLength.Statement .ld_E_E := ⟨rfl, Nat.le_of_ble_eq_true rfl⟩
theorem EncodeLength.ld_E_H : EncodeLength.Statement .ld_E_H := ⟨rfl, Nat.le_of_ble_eq_true rfl⟩
theorem EncodeLength.ld_E_L : EncodeLength.Statement .ld_E_L := ⟨rfl, Nat.le_of_ble_eq_true rfl⟩
theorem EncodeLength.ld_E_AtHL : EncodeLength.Statement .ld_E_AtHL := ⟨rfl, Nat.le_of_ble_eq_true rfl⟩
theorem EncodeLength.ld_E_A : EncodeLength.Statement .ld_E_A := ⟨rfl, Nat.le_of_ble_eq_true rfl⟩
theorem EncodeLength.ld_H_B : EncodeLength.Statement .ld_H_B := ⟨rfl, Nat.le_of_ble_eq_true rfl⟩
theorem EncodeLength.ld_H_C : EncodeLength.Statement .ld_H_C := ⟨rfl, Nat.le_of_ble_eq_true rfl⟩
theorem EncodeLength.ld_H_D : EncodeLength.Statement .ld_H_D := ⟨rfl, Nat.le_of_ble_eq_true rfl⟩
theorem EncodeLength.ld_H_E : EncodeLength.Statement .ld_H_E := ⟨rfl, Nat.le_of_ble_eq_true rfl⟩
theorem EncodeLength.ld_H_H : EncodeLength.Statement .ld_H_H := ⟨rfl, Nat.le_of_ble_eq_true rfl⟩
theorem EncodeLength.ld_H_L : EncodeLength.Statement .ld_H_L := ⟨rfl, Nat.le_of_ble_eq_true rfl⟩
theorem EncodeLength.ld_H_AtHL : EncodeLength.Statement .ld_H_AtHL := ⟨rfl, Nat.le_of_ble_eq_true rfl⟩
theorem EncodeLength.ld_H_A : EncodeLength.Statement .ld_H_A := ⟨rfl, Nat.le_of_ble_eq_true rfl⟩
theorem EncodeLength.ld_L_B : EncodeLength.Statement .ld_L_B := ⟨rfl, Nat.le_of_ble_eq_true rfl⟩
theorem EncodeLength.ld_L_C : EncodeLength.Statement .ld_L_C := ⟨rfl, Nat.le_of_ble_eq_true rfl⟩
theorem EncodeLength.ld_L_D : EncodeLength.Statement .ld_L_D := ⟨rfl, Nat.le_of_ble_eq_true rfl⟩
theorem EncodeLength.ld_L_E : EncodeLength.Statement .ld_L_E := ⟨rfl, Nat.le_of_ble_eq_true rfl⟩
theorem EncodeLength.ld_L_H : EncodeLength.Statement .ld_L_H := ⟨rfl, Nat.le_of_ble_eq_true rfl⟩
theorem EncodeLength.ld_L_L : EncodeLength.Statement .ld_L_L := ⟨rfl, Nat.le_of_ble_eq_true rfl⟩
theorem EncodeLength.ld_L_AtHL : EncodeLength.Statement .ld_L_AtHL := ⟨rfl, Nat.le_of_ble_eq_true rfl⟩
theorem EncodeLength.ld_L_A : EncodeLength.Statement .ld_L_A := ⟨rfl, Nat.le_of_ble_eq_true rfl⟩
theorem EncodeLength.ld_AtHL_B : EncodeLength.Statement .ld_AtHL_B := ⟨rfl, Nat.le_of_ble_eq_true rfl⟩
theorem EncodeLength.ld_AtHL_C : EncodeLength.Statement .ld_AtHL_C := ⟨rfl, Nat.le_of_ble_eq_true rfl⟩
theorem EncodeLength.ld_AtHL_D : EncodeLength.Statement .ld_AtHL_D := ⟨rfl, Nat.le_of_ble_eq_true rfl⟩
theorem EncodeLength.ld_AtHL_E : EncodeLength.Statement .ld_AtHL_E := ⟨rfl, Nat.le_of_ble_eq_true rfl⟩
theorem EncodeLength.ld_AtHL_H : EncodeLength.Statement .ld_AtHL_H := ⟨rfl, Nat.le_of_ble_eq_true rfl⟩
theorem EncodeLength.ld_AtHL_L : EncodeLength.Statement .ld_AtHL_L := ⟨rfl, Nat.le_of_ble_eq_true rfl⟩
theorem EncodeLength.halt : EncodeLength.Statement .halt := ⟨rfl, Nat.le_of_ble_eq_true rfl⟩
theorem EncodeLength.ld_AtHL_A : EncodeLength.Statement .ld_AtHL_A := ⟨rfl, Nat.le_of_ble_eq_true rfl⟩
theorem EncodeLength.ld_A_B : EncodeLength.Statement .ld_A_B := ⟨rfl, Nat.le_of_ble_eq_true rfl⟩
theorem EncodeLength.ld_A_C : EncodeLength.Statement .ld_A_C := ⟨rfl, Nat.le_of_ble_eq_true rfl⟩
theorem EncodeLength.ld_A_D : EncodeLength.Statement .ld_A_D := ⟨rfl, Nat.le_of_ble_eq_true rfl⟩
theorem EncodeLength.ld_A_E : EncodeLength.Statement .ld_A_E := ⟨rfl, Nat.le_of_ble_eq_true rfl⟩
theorem EncodeLength.ld_A_H : EncodeLength.Statement .ld_A_H := ⟨rfl, Nat.le_of_ble_eq_true rfl⟩
theorem EncodeLength.ld_A_L : EncodeLength.Statement .ld_A_L := ⟨rfl, Nat.le_of_ble_eq_true rfl⟩
theorem EncodeLength.ld_A_AtHL : EncodeLength.Statement .ld_A_AtHL := ⟨rfl, Nat.le_of_ble_eq_true rfl⟩
theorem EncodeLength.ld_A_A : EncodeLength.Statement .ld_A_A := ⟨rfl, Nat.le_of_ble_eq_true rfl⟩
theorem EncodeLength.add_A_B : EncodeLength.Statement .add_A_B := ⟨rfl, Nat.le_of_ble_eq_true rfl⟩
theorem EncodeLength.add_A_C : EncodeLength.Statement .add_A_C := ⟨rfl, Nat.le_of_ble_eq_true rfl⟩
theorem EncodeLength.add_A_D : EncodeLength.Statement .add_A_D := ⟨rfl, Nat.le_of_ble_eq_true rfl⟩
theorem EncodeLength.add_A_E : EncodeLength.Statement .add_A_E := ⟨rfl, Nat.le_of_ble_eq_true rfl⟩
theorem EncodeLength.add_A_H : EncodeLength.Statement .add_A_H := ⟨rfl, Nat.le_of_ble_eq_true rfl⟩
theorem EncodeLength.add_A_L : EncodeLength.Statement .add_A_L := ⟨rfl, Nat.le_of_ble_eq_true rfl⟩
theorem EncodeLength.add_A_AtHL : EncodeLength.Statement .add_A_AtHL := ⟨rfl, Nat.le_of_ble_eq_true rfl⟩
theorem EncodeLength.add_A_A : EncodeLength.Statement .add_A_A := ⟨rfl, Nat.le_of_ble_eq_true rfl⟩
theorem EncodeLength.adc_A_B : EncodeLength.Statement .adc_A_B := ⟨rfl, Nat.le_of_ble_eq_true rfl⟩
theorem EncodeLength.adc_A_C : EncodeLength.Statement .adc_A_C := ⟨rfl, Nat.le_of_ble_eq_true rfl⟩
theorem EncodeLength.adc_A_D : EncodeLength.Statement .adc_A_D := ⟨rfl, Nat.le_of_ble_eq_true rfl⟩
theorem EncodeLength.adc_A_E : EncodeLength.Statement .adc_A_E := ⟨rfl, Nat.le_of_ble_eq_true rfl⟩
theorem EncodeLength.adc_A_H : EncodeLength.Statement .adc_A_H := ⟨rfl, Nat.le_of_ble_eq_true rfl⟩
theorem EncodeLength.adc_A_L : EncodeLength.Statement .adc_A_L := ⟨rfl, Nat.le_of_ble_eq_true rfl⟩
theorem EncodeLength.adc_A_AtHL : EncodeLength.Statement .adc_A_AtHL := ⟨rfl, Nat.le_of_ble_eq_true rfl⟩
theorem EncodeLength.adc_A_A : EncodeLength.Statement .adc_A_A := ⟨rfl, Nat.le_of_ble_eq_true rfl⟩
theorem EncodeLength.sub_B : EncodeLength.Statement .sub_B := ⟨rfl, Nat.le_of_ble_eq_true rfl⟩
theorem EncodeLength.sub_C : EncodeLength.Statement .sub_C := ⟨rfl, Nat.le_of_ble_eq_true rfl⟩
theorem EncodeLength.sub_D : EncodeLength.Statement .sub_D := ⟨rfl, Nat.le_of_ble_eq_true rfl⟩
theorem EncodeLength.sub_E : EncodeLength.Statement .sub_E := ⟨rfl, Nat.le_of_ble_eq_true rfl⟩
theorem EncodeLength.sub_H : EncodeLength.Statement .sub_H := ⟨rfl, Nat.le_of_ble_eq_true rfl⟩
theorem EncodeLength.sub_L : EncodeLength.Statement .sub_L := ⟨rfl, Nat.le_of_ble_eq_true rfl⟩
theorem EncodeLength.sub_AtHL : EncodeLength.Statement .sub_AtHL := ⟨rfl, Nat.le_of_ble_eq_true rfl⟩
theorem EncodeLength.sub_A : EncodeLength.Statement .sub_A := ⟨rfl, Nat.le_of_ble_eq_true rfl⟩
theorem EncodeLength.sbc_A_B : EncodeLength.Statement .sbc_A_B := ⟨rfl, Nat.le_of_ble_eq_true rfl⟩
theorem EncodeLength.sbc_A_C : EncodeLength.Statement .sbc_A_C := ⟨rfl, Nat.le_of_ble_eq_true rfl⟩
theorem EncodeLength.sbc_A_D : EncodeLength.Statement .sbc_A_D := ⟨rfl, Nat.le_of_ble_eq_true rfl⟩
theorem EncodeLength.sbc_A_E : EncodeLength.Statement .sbc_A_E := ⟨rfl, Nat.le_of_ble_eq_true rfl⟩
theorem EncodeLength.sbc_A_H : EncodeLength.Statement .sbc_A_H := ⟨rfl, Nat.le_of_ble_eq_true rfl⟩
theorem EncodeLength.sbc_A_L : EncodeLength.Statement .sbc_A_L := ⟨rfl, Nat.le_of_ble_eq_true rfl⟩
theorem EncodeLength.sbc_A_AtHL : EncodeLength.Statement .sbc_A_AtHL := ⟨rfl, Nat.le_of_ble_eq_true rfl⟩
theorem EncodeLength.sbc_A_A : EncodeLength.Statement .sbc_A_A := ⟨rfl, Nat.le_of_ble_eq_true rfl⟩
theorem EncodeLength.and_B : EncodeLength.Statement .and_B := ⟨rfl, Nat.le_of_ble_eq_true rfl⟩
theorem EncodeLength.and_C : EncodeLength.Statement .and_C := ⟨rfl, Nat.le_of_ble_eq_true rfl⟩
theorem EncodeLength.and_D : EncodeLength.Statement .and_D := ⟨rfl, Nat.le_of_ble_eq_true rfl⟩
theorem EncodeLength.and_E : EncodeLength.Statement .and_E := ⟨rfl, Nat.le_of_ble_eq_true rfl⟩
theorem EncodeLength.and_H : EncodeLength.Statement .and_H := ⟨rfl, Nat.le_of_ble_eq_true rfl⟩
theorem EncodeLength.and_L : EncodeLength.Statement .and_L := ⟨rfl, Nat.le_of_ble_eq_true rfl⟩
theorem EncodeLength.and_AtHL : EncodeLength.Statement .and_AtHL := ⟨rfl, Nat.le_of_ble_eq_true rfl⟩
theorem EncodeLength.and_A : EncodeLength.Statement .and_A := ⟨rfl, Nat.le_of_ble_eq_true rfl⟩
theorem EncodeLength.xor_B : EncodeLength.Statement .xor_B := ⟨rfl, Nat.le_of_ble_eq_true rfl⟩
theorem EncodeLength.xor_C : EncodeLength.Statement .xor_C := ⟨rfl, Nat.le_of_ble_eq_true rfl⟩
theorem EncodeLength.xor_D : EncodeLength.Statement .xor_D := ⟨rfl, Nat.le_of_ble_eq_true rfl⟩
theorem EncodeLength.xor_E : EncodeLength.Statement .xor_E := ⟨rfl, Nat.le_of_ble_eq_true rfl⟩
theorem EncodeLength.xor_H : EncodeLength.Statement .xor_H := ⟨rfl, Nat.le_of_ble_eq_true rfl⟩
theorem EncodeLength.xor_L : EncodeLength.Statement .xor_L := ⟨rfl, Nat.le_of_ble_eq_true rfl⟩
theorem EncodeLength.xor_AtHL : EncodeLength.Statement .xor_AtHL := ⟨rfl, Nat.le_of_ble_eq_true rfl⟩
theorem EncodeLength.xor_A : EncodeLength.Statement .xor_A := ⟨rfl, Nat.le_of_ble_eq_true rfl⟩
theorem EncodeLength.or_B : EncodeLength.Statement .or_B := ⟨rfl, Nat.le_of_ble_eq_true rfl⟩
theorem EncodeLength.or_C : EncodeLength.Statement .or_C := ⟨rfl, Nat.le_of_ble_eq_true rfl⟩
theorem EncodeLength.or_D : EncodeLength.Statement .or_D := ⟨rfl, Nat.le_of_ble_eq_true rfl⟩
theorem EncodeLength.or_E : EncodeLength.Statement .or_E := ⟨rfl, Nat.le_of_ble_eq_true rfl⟩
theorem EncodeLength.or_H : EncodeLength.Statement .or_H := ⟨rfl, Nat.le_of_ble_eq_true rfl⟩
theorem EncodeLength.or_L : EncodeLength.Statement .or_L := ⟨rfl, Nat.le_of_ble_eq_true rfl⟩
theorem EncodeLength.or_AtHL : EncodeLength.Statement .or_AtHL := ⟨rfl, Nat.le_of_ble_eq_true rfl⟩
theorem EncodeLength.or_A : EncodeLength.Statement .or_A := ⟨rfl, Nat.le_of_ble_eq_true rfl⟩
theorem EncodeLength.cp_B : EncodeLength.Statement .cp_B := ⟨rfl, Nat.le_of_ble_eq_true rfl⟩
theorem EncodeLength.cp_C : EncodeLength.Statement .cp_C := ⟨rfl, Nat.le_of_ble_eq_true rfl⟩
theorem EncodeLength.cp_D : EncodeLength.Statement .cp_D := ⟨rfl, Nat.le_of_ble_eq_true rfl⟩
theorem EncodeLength.cp_E : EncodeLength.Statement .cp_E := ⟨rfl, Nat.le_of_ble_eq_true rfl⟩
theorem EncodeLength.cp_H : EncodeLength.Statement .cp_H := ⟨rfl, Nat.le_of_ble_eq_true rfl⟩
theorem EncodeLength.cp_L : EncodeLength.Statement .cp_L := ⟨rfl, Nat.le_of_ble_eq_true rfl⟩
theorem EncodeLength.cp_AtHL : EncodeLength.Statement .cp_AtHL := ⟨rfl, Nat.le_of_ble_eq_true rfl⟩
theorem EncodeLength.cp_A : EncodeLength.Statement .cp_A := ⟨rfl, Nat.le_of_ble_eq_true rfl⟩
theorem EncodeLength.ret_NZ : EncodeLength.Statement .ret_NZ := ⟨rfl, Nat.le_of_ble_eq_true rfl⟩
theorem EncodeLength.pop_BC : EncodeLength.Statement .pop_BC := ⟨rfl, Nat.le_of_ble_eq_true rfl⟩
theorem EncodeLength.push_BC : EncodeLength.Statement .push_BC := ⟨rfl, Nat.le_of_ble_eq_true rfl⟩
theorem EncodeLength.rst_00 : EncodeLength.Statement .rst_00 := ⟨rfl, Nat.le_of_ble_eq_true rfl⟩
theorem EncodeLength.ret_Z : EncodeLength.Statement .ret_Z := ⟨rfl, Nat.le_of_ble_eq_true rfl⟩
theorem EncodeLength.ret : EncodeLength.Statement .ret := ⟨rfl, Nat.le_of_ble_eq_true rfl⟩
theorem EncodeLength.rst_08 : EncodeLength.Statement .rst_08 := ⟨rfl, Nat.le_of_ble_eq_true rfl⟩
theorem EncodeLength.ret_NC : EncodeLength.Statement .ret_NC := ⟨rfl, Nat.le_of_ble_eq_true rfl⟩
theorem EncodeLength.pop_DE : EncodeLength.Statement .pop_DE := ⟨rfl, Nat.le_of_ble_eq_true rfl⟩
theorem EncodeLength.push_DE : EncodeLength.Statement .push_DE := ⟨rfl, Nat.le_of_ble_eq_true rfl⟩
theorem EncodeLength.rst_10 : EncodeLength.Statement .rst_10 := ⟨rfl, Nat.le_of_ble_eq_true rfl⟩
theorem EncodeLength.ret_C : EncodeLength.Statement .ret_C := ⟨rfl, Nat.le_of_ble_eq_true rfl⟩
theorem EncodeLength.exx : EncodeLength.Statement .exx := ⟨rfl, Nat.le_of_ble_eq_true rfl⟩
theorem EncodeLength.rst_18 : EncodeLength.Statement .rst_18 := ⟨rfl, Nat.le_of_ble_eq_true rfl⟩
theorem EncodeLength.ret_PO : EncodeLength.Statement .ret_PO := ⟨rfl, Nat.le_of_ble_eq_true rfl⟩
theorem EncodeLength.pop_HL : EncodeLength.Statement .pop_HL := ⟨rfl, Nat.le_of_ble_eq_true rfl⟩
theorem EncodeLength.ex_AtSP_HL : EncodeLength.Statement .ex_AtSP_HL := ⟨rfl, Nat.le_of_ble_eq_true rfl⟩
theorem EncodeLength.push_HL : EncodeLength.Statement .push_HL := ⟨rfl, Nat.le_of_ble_eq_true rfl⟩
theorem EncodeLength.rst_20 : EncodeLength.Statement .rst_20 := ⟨rfl, Nat.le_of_ble_eq_true rfl⟩
theorem EncodeLength.ret_PE : EncodeLength.Statement .ret_PE := ⟨rfl, Nat.le_of_ble_eq_true rfl⟩
theorem EncodeLength.jp_AtHL : EncodeLength.Statement .jp_AtHL := ⟨rfl, Nat.le_of_ble_eq_true rfl⟩
theorem EncodeLength.ex_DE_HL : EncodeLength.Statement .ex_DE_HL := ⟨rfl, Nat.le_of_ble_eq_true rfl⟩
theorem EncodeLength.rst_28 : EncodeLength.Statement .rst_28 := ⟨rfl, Nat.le_of_ble_eq_true rfl⟩
theorem EncodeLength.ret_P : EncodeLength.Statement .ret_P := ⟨rfl, Nat.le_of_ble_eq_true rfl⟩
theorem EncodeLength.pop_AF : EncodeLength.Statement .pop_AF := ⟨rfl, Nat.le_of_ble_eq_true rfl⟩
theorem EncodeLength.di : EncodeLength.Statement .di := ⟨rfl, Nat.le_of_ble_eq_true rfl⟩
theorem EncodeLength.push_AF : EncodeLength.Statement .push_AF := ⟨rfl, Nat.le_of_ble_eq_true rfl⟩
theorem EncodeLength.rst_30 : EncodeLength.Statement .rst_30 := ⟨rfl, Nat.le_of_ble_eq_true rfl⟩
theorem EncodeLength.ret_M : EncodeLength.Statement .ret_M := ⟨rfl, Nat.le_of_ble_eq_true rfl⟩
theorem EncodeLength.ld_SP_HL : EncodeLength.Statement .ld_SP_HL := ⟨rfl, Nat.le_of_ble_eq_true rfl⟩
theorem EncodeLength.ei : EncodeLength.Statement .ei := ⟨rfl, Nat.le_of_ble_eq_true rfl⟩
theorem EncodeLength.rst_38 : EncodeLength.Statement .rst_38 := ⟨rfl, Nat.le_of_ble_eq_true rfl⟩
theorem EncodeLength.rlc_B : EncodeLength.Statement .rlc_B := ⟨rfl, Nat.le_of_ble_eq_true rfl⟩
theorem EncodeLength.rlc_C : EncodeLength.Statement .rlc_C := ⟨rfl, Nat.le_of_ble_eq_true rfl⟩
theorem EncodeLength.rlc_D : EncodeLength.Statement .rlc_D := ⟨rfl, Nat.le_of_ble_eq_true rfl⟩
theorem EncodeLength.rlc_E : EncodeLength.Statement .rlc_E := ⟨rfl, Nat.le_of_ble_eq_true rfl⟩
theorem EncodeLength.rlc_H : EncodeLength.Statement .rlc_H := ⟨rfl, Nat.le_of_ble_eq_true rfl⟩
theorem EncodeLength.rlc_L : EncodeLength.Statement .rlc_L := ⟨rfl, Nat.le_of_ble_eq_true rfl⟩
theorem EncodeLength.rlc_AtHL : EncodeLength.Statement .rlc_AtHL := ⟨rfl, Nat.le_of_ble_eq_true rfl⟩
theorem EncodeLength.rlc_A : EncodeLength.Statement .rlc_A := ⟨rfl, Nat.le_of_ble_eq_true rfl⟩
theorem EncodeLength.rrc_B : EncodeLength.Statement .rrc_B := ⟨rfl, Nat.le_of_ble_eq_true rfl⟩
theorem EncodeLength.rrc_C : EncodeLength.Statement .rrc_C := ⟨rfl, Nat.le_of_ble_eq_true rfl⟩
theorem EncodeLength.rrc_D : EncodeLength.Statement .rrc_D := ⟨rfl, Nat.le_of_ble_eq_true rfl⟩
theorem EncodeLength.rrc_E : EncodeLength.Statement .rrc_E := ⟨rfl, Nat.le_of_ble_eq_true rfl⟩
theorem EncodeLength.rrc_H : EncodeLength.Statement .rrc_H := ⟨rfl, Nat.le_of_ble_eq_true rfl⟩
theorem EncodeLength.rrc_L : EncodeLength.Statement .rrc_L := ⟨rfl, Nat.le_of_ble_eq_true rfl⟩
theorem EncodeLength.rrc_AtHL : EncodeLength.Statement .rrc_AtHL := ⟨rfl, Nat.le_of_ble_eq_true rfl⟩
theorem EncodeLength.rrc_A : EncodeLength.Statement .rrc_A := ⟨rfl, Nat.le_of_ble_eq_true rfl⟩
theorem EncodeLength.rl_B : EncodeLength.Statement .rl_B := ⟨rfl, Nat.le_of_ble_eq_true rfl⟩
theorem EncodeLength.rl_C : EncodeLength.Statement .rl_C := ⟨rfl, Nat.le_of_ble_eq_true rfl⟩
theorem EncodeLength.rl_D : EncodeLength.Statement .rl_D := ⟨rfl, Nat.le_of_ble_eq_true rfl⟩
theorem EncodeLength.rl_E : EncodeLength.Statement .rl_E := ⟨rfl, Nat.le_of_ble_eq_true rfl⟩
theorem EncodeLength.rl_H : EncodeLength.Statement .rl_H := ⟨rfl, Nat.le_of_ble_eq_true rfl⟩
theorem EncodeLength.rl_L : EncodeLength.Statement .rl_L := ⟨rfl, Nat.le_of_ble_eq_true rfl⟩
theorem EncodeLength.rl_AtHL : EncodeLength.Statement .rl_AtHL := ⟨rfl, Nat.le_of_ble_eq_true rfl⟩
theorem EncodeLength.rl_A : EncodeLength.Statement .rl_A := ⟨rfl, Nat.le_of_ble_eq_true rfl⟩
theorem EncodeLength.rr_B : EncodeLength.Statement .rr_B := ⟨rfl, Nat.le_of_ble_eq_true rfl⟩
theorem EncodeLength.rr_C : EncodeLength.Statement .rr_C := ⟨rfl, Nat.le_of_ble_eq_true rfl⟩
theorem EncodeLength.rr_D : EncodeLength.Statement .rr_D := ⟨rfl, Nat.le_of_ble_eq_true rfl⟩
theorem EncodeLength.rr_E : EncodeLength.Statement .rr_E := ⟨rfl, Nat.le_of_ble_eq_true rfl⟩
theorem EncodeLength.rr_H : EncodeLength.Statement .rr_H := ⟨rfl, Nat.le_of_ble_eq_true rfl⟩
theorem EncodeLength.rr_L : EncodeLength.Statement .rr_L := ⟨rfl, Nat.le_of_ble_eq_true rfl⟩
theorem EncodeLength.rr_AtHL : EncodeLength.Statement .rr_AtHL := ⟨rfl, Nat.le_of_ble_eq_true rfl⟩
theorem EncodeLength.rr_A : EncodeLength.Statement .rr_A := ⟨rfl, Nat.le_of_ble_eq_true rfl⟩
theorem EncodeLength.sla_B : EncodeLength.Statement .sla_B := ⟨rfl, Nat.le_of_ble_eq_true rfl⟩
theorem EncodeLength.sla_C : EncodeLength.Statement .sla_C := ⟨rfl, Nat.le_of_ble_eq_true rfl⟩
theorem EncodeLength.sla_D : EncodeLength.Statement .sla_D := ⟨rfl, Nat.le_of_ble_eq_true rfl⟩
theorem EncodeLength.sla_E : EncodeLength.Statement .sla_E := ⟨rfl, Nat.le_of_ble_eq_true rfl⟩
theorem EncodeLength.sla_H : EncodeLength.Statement .sla_H := ⟨rfl, Nat.le_of_ble_eq_true rfl⟩
theorem EncodeLength.sla_L : EncodeLength.Statement .sla_L := ⟨rfl, Nat.le_of_ble_eq_true rfl⟩
theorem EncodeLength.sla_AtHL : EncodeLength.Statement .sla_AtHL := ⟨rfl, Nat.le_of_ble_eq_true rfl⟩
theorem EncodeLength.sla_A : EncodeLength.Statement .sla_A := ⟨rfl, Nat.le_of_ble_eq_true rfl⟩
theorem EncodeLength.sra_B : EncodeLength.Statement .sra_B := ⟨rfl, Nat.le_of_ble_eq_true rfl⟩
theorem EncodeLength.sra_C : EncodeLength.Statement .sra_C := ⟨rfl, Nat.le_of_ble_eq_true rfl⟩
theorem EncodeLength.sra_D : EncodeLength.Statement .sra_D := ⟨rfl, Nat.le_of_ble_eq_true rfl⟩
theorem EncodeLength.sra_E : EncodeLength.Statement .sra_E := ⟨rfl, Nat.le_of_ble_eq_true rfl⟩
theorem EncodeLength.sra_H : EncodeLength.Statement .sra_H := ⟨rfl, Nat.le_of_ble_eq_true rfl⟩
theorem EncodeLength.sra_L : EncodeLength.Statement .sra_L := ⟨rfl, Nat.le_of_ble_eq_true rfl⟩
theorem EncodeLength.sra_AtHL : EncodeLength.Statement .sra_AtHL := ⟨rfl, Nat.le_of_ble_eq_true rfl⟩
theorem EncodeLength.sra_A : EncodeLength.Statement .sra_A := ⟨rfl, Nat.le_of_ble_eq_true rfl⟩
theorem EncodeLength.sll_B : EncodeLength.Statement .sll_B := ⟨rfl, Nat.le_of_ble_eq_true rfl⟩
theorem EncodeLength.sll_C : EncodeLength.Statement .sll_C := ⟨rfl, Nat.le_of_ble_eq_true rfl⟩
theorem EncodeLength.sll_D : EncodeLength.Statement .sll_D := ⟨rfl, Nat.le_of_ble_eq_true rfl⟩
theorem EncodeLength.sll_E : EncodeLength.Statement .sll_E := ⟨rfl, Nat.le_of_ble_eq_true rfl⟩
theorem EncodeLength.sll_H : EncodeLength.Statement .sll_H := ⟨rfl, Nat.le_of_ble_eq_true rfl⟩
theorem EncodeLength.sll_L : EncodeLength.Statement .sll_L := ⟨rfl, Nat.le_of_ble_eq_true rfl⟩
theorem EncodeLength.sll_AtHL : EncodeLength.Statement .sll_AtHL := ⟨rfl, Nat.le_of_ble_eq_true rfl⟩
theorem EncodeLength.sll_A : EncodeLength.Statement .sll_A := ⟨rfl, Nat.le_of_ble_eq_true rfl⟩
theorem EncodeLength.srl_B : EncodeLength.Statement .srl_B := ⟨rfl, Nat.le_of_ble_eq_true rfl⟩
theorem EncodeLength.srl_C : EncodeLength.Statement .srl_C := ⟨rfl, Nat.le_of_ble_eq_true rfl⟩
theorem EncodeLength.srl_D : EncodeLength.Statement .srl_D := ⟨rfl, Nat.le_of_ble_eq_true rfl⟩
theorem EncodeLength.srl_E : EncodeLength.Statement .srl_E := ⟨rfl, Nat.le_of_ble_eq_true rfl⟩
theorem EncodeLength.srl_H : EncodeLength.Statement .srl_H := ⟨rfl, Nat.le_of_ble_eq_true rfl⟩
theorem EncodeLength.srl_L : EncodeLength.Statement .srl_L := ⟨rfl, Nat.le_of_ble_eq_true rfl⟩
theorem EncodeLength.srl_AtHL : EncodeLength.Statement .srl_AtHL := ⟨rfl, Nat.le_of_ble_eq_true rfl⟩
theorem EncodeLength.srl_A : EncodeLength.Statement .srl_A := ⟨rfl, Nat.le_of_ble_eq_true rfl⟩
theorem EncodeLength.bit_0_B : EncodeLength.Statement .bit_0_B := ⟨rfl, Nat.le_of_ble_eq_true rfl⟩
theorem EncodeLength.bit_0_C : EncodeLength.Statement .bit_0_C := ⟨rfl, Nat.le_of_ble_eq_true rfl⟩
theorem EncodeLength.bit_0_D : EncodeLength.Statement .bit_0_D := ⟨rfl, Nat.le_of_ble_eq_true rfl⟩
theorem EncodeLength.bit_0_E : EncodeLength.Statement .bit_0_E := ⟨rfl, Nat.le_of_ble_eq_true rfl⟩
theorem EncodeLength.bit_0_H : EncodeLength.Statement .bit_0_H := ⟨rfl, Nat.le_of_ble_eq_true rfl⟩
theorem EncodeLength.bit_0_L : EncodeLength.Statement .bit_0_L := ⟨rfl, Nat.le_of_ble_eq_true rfl⟩
theorem EncodeLength.bit_0_AtHL : EncodeLength.Statement .bit_0_AtHL := ⟨rfl, Nat.le_of_ble_eq_true rfl⟩
theorem EncodeLength.bit_0_A : EncodeLength.Statement .bit_0_A := ⟨rfl, Nat.le_of_ble_eq_true rfl⟩
theorem EncodeLength.bit_1_B : EncodeLength.Statement .bit_1_B := ⟨rfl, Nat.le_of_ble_eq_true rfl⟩
theorem EncodeLength.bit_1_C : EncodeLength.Statement .bit_1_C := ⟨rfl, Nat.le_of_ble_eq_true rfl⟩
theorem EncodeLength.bit_1_D : EncodeLength.Statement .bit_1_D := ⟨rfl, Nat.le_of_ble_eq_true rfl⟩
theorem EncodeLength.bit_1_E : EncodeLength.Statement .bit_1_E := ⟨rfl, Nat.le_of_ble_eq_true rfl⟩
theorem EncodeLength.bit_1_H : EncodeLength.Statement .bit_1_H := ⟨rfl, Nat.le_of_ble_eq_true rfl⟩
theorem EncodeLength.bit_1_L : EncodeLength.Statement .bit_1_L := ⟨rfl, Nat.le_of_ble_eq_true rfl⟩
theorem EncodeLength.bit_1_AtHL : EncodeLength.Statement .bit_1_AtHL := ⟨rfl, Nat.le_of_ble_eq_true rfl⟩
theorem EncodeLength.bit_1_A : EncodeLength.Statement .bit_1_A := ⟨rfl, Nat.le_of_ble_eq_true rfl⟩
theorem EncodeLength.bit_2_B : EncodeLength.Statement .bit_2_B := ⟨rfl, Nat.le_of_ble_eq_true rfl⟩
theorem EncodeLength.bit_2_C : EncodeLength.Statement .bit_2_C := ⟨rfl, Nat.le_of_ble_eq_true rfl⟩
theorem EncodeLength.bit_2_D : EncodeLength.Statement .bit_2_D := ⟨rfl, Nat.le_of_ble_eq_true rfl⟩
theorem EncodeLength.bit_2_E : EncodeLength.Statement .bit_2_E := ⟨rfl, Nat.le_of_ble_eq_true rfl⟩
theorem EncodeLength.bit_2_H : EncodeLength.Statement .bit_2_H := ⟨rfl, Nat.le_of_ble_eq_true rfl⟩
theorem EncodeLength.bit_2_L : EncodeLength.Statement .bit_2_L := ⟨rfl, Nat.le_of_ble_eq_true rfl⟩
theorem EncodeLength.bit_2_AtHL : EncodeLength.Statement .bit_2_AtHL := ⟨rfl, Nat.le_of_ble_eq_true rfl⟩
theorem EncodeLength.bit_2_A : EncodeLength.Statement .bit_2_A := ⟨rfl, Nat.le_of_ble_eq_true rfl⟩
theorem EncodeLength.bit_3_B : EncodeLength.Statement .bit_3_B := ⟨rfl, Nat.le_of_ble_eq_true rfl⟩
theorem EncodeLength.bit_3_C : EncodeLength.Statement .bit_3_C := ⟨rfl, Nat.le_of_ble_eq_true rfl⟩
theorem EncodeLength.bit_3_D : EncodeLength.Statement .bit_3_D := ⟨rfl, Nat.le_of_ble_eq_true rfl⟩
theorem EncodeLength.bit_3_E : EncodeLength.Statement .bit_3_E := ⟨rfl, Nat.le_of_ble_eq_true rfl⟩
theorem EncodeLength.bit_3_H : EncodeLength.Statement .bit_3_H := ⟨rfl, Nat.le_of_ble_eq_true rfl⟩
theorem EncodeLength.bit_3_L : EncodeLength.Statement .bit_3_L := ⟨rfl, Nat.le_of_ble_eq_true rfl⟩
theorem EncodeLength.bit_3_AtHL : EncodeLength.Statement .bit_3_AtHL := ⟨rfl, Nat.le_of_ble_eq_true rfl⟩
theorem EncodeLength.bit_3_A : EncodeLength.Statement .bit_3_A := ⟨rfl, Nat.le_of_ble_eq_true rfl⟩
theorem EncodeLength.bit_4_B : EncodeLength.Statement .bit_4_B := ⟨rfl, Nat.le_of_ble_eq_true rfl⟩
theorem EncodeLength.bit_4_C : EncodeLength.Statement .bit_4_C := ⟨rfl, Nat.le_of_ble_eq_true rfl⟩
theorem EncodeLength.bit_4_D : EncodeLength.Statement .bit_4_D := ⟨rfl, Nat.le_of_ble_eq_true rfl⟩
theorem EncodeLength.bit_4_E : EncodeLength.Statement .bit_4_E := ⟨rfl, Nat.le_of_ble_eq_true rfl⟩
theorem EncodeLength.bit_4_H : EncodeLength.Statement .bit_4_H := ⟨rfl, Nat.le_of_ble_eq_true rfl⟩
theorem EncodeLength.bit_4_L : EncodeLength.Statement .bit_4_L := ⟨rfl, Nat.le_of_ble_eq_true rfl⟩
theorem EncodeLength.bit_4_AtHL : EncodeLength.Statement .bit_4_AtHL := ⟨rfl, Nat.le_of_ble_eq_true rfl⟩
theorem EncodeLength.bit_4_A : EncodeLength.Statement .bit_4_A := ⟨rfl, Nat.le_of_ble_eq_true rfl⟩
theorem EncodeLength.bit_5_B : EncodeLength.Statement .bit_5_B := ⟨rfl, Nat.le_of_ble_eq_true rfl⟩
theorem EncodeLength.bit_5_C : EncodeLength.Statement .bit_5_C := ⟨rfl, Nat.le_of_ble_eq_true rfl⟩
theorem EncodeLength.bit_5_D : EncodeLength.Statement .bit_5_D := ⟨rfl, Nat.le_of_ble_eq_true rfl⟩
theorem EncodeLength.bit_5_E : EncodeLength.Statement .bit_5_E := ⟨rfl, Nat.le_of_ble_eq_true rfl⟩
theorem EncodeLength.bit_5_H : EncodeLength.Statement .bit_5_H := ⟨rfl, Nat.le_of_ble_eq_true rfl⟩
theorem EncodeLength.bit_5_L : EncodeLength.Statement .bit_5_L := ⟨rfl, Nat.le_of_ble_eq_true rfl⟩
theorem EncodeLength.bit_5_AtHL : EncodeLength.Statement .bit_5_AtHL := ⟨rfl, Nat.le_of_ble_eq_true rfl⟩
theorem EncodeLength.bit_5_A : EncodeLength.Statement .bit_5_A := ⟨rfl, Nat.le_of_ble_eq_true rfl⟩
theorem EncodeLength.bit_6_B : EncodeLength.Statement .bit_6_B := ⟨rfl, Nat.le_of_ble_eq_true rfl⟩
theorem EncodeLength.bit_6_C : EncodeLength.Statement .bit_6_C := ⟨rfl, Nat.le_of_ble_eq_true rfl⟩
theorem EncodeLength.bit_6_D : EncodeLength.Statement .bit_6_D := ⟨rfl, Nat.le_of_ble_eq_true rfl⟩
theorem EncodeLength.bit_6_E : EncodeLength.Statement .bit_6_E := ⟨rfl, Nat.le_of_ble_eq_true rfl⟩
theorem EncodeLength.bit_6_H : EncodeLength.Statement .bit_6_H := ⟨rfl, Nat.le_of_ble_eq_true rfl⟩
theorem EncodeLength.bit_6_L : EncodeLength.Statement .bit_6_L := ⟨rfl, Nat.le_of_ble_eq_true rfl⟩
theorem EncodeLength.bit_6_AtHL : EncodeLength.Statement .bit_6_AtHL := ⟨rfl, Nat.le_of_ble_eq_true rfl⟩
theorem EncodeLength.bit_6_A : EncodeLength.Statement .bit_6_A := ⟨rfl, Nat.le_of_ble_eq_true rfl⟩
theorem EncodeLength.bit_7_B : EncodeLength.Statement .bit_7_B := ⟨rfl, Nat.le_of_ble_eq_true rfl⟩
theorem EncodeLength.bit_7_C : EncodeLength.Statement .bit_7_C := ⟨rfl, Nat.le_of_ble_eq_true rfl⟩
theorem EncodeLength.bit_7_D : EncodeLength.Statement .bit_7_D := ⟨rfl, Nat.le_of_ble_eq_true rfl⟩
theorem EncodeLength.bit_7_E : EncodeLength.Statement .bit_7_E := ⟨rfl, Nat.le_of_ble_eq_true rfl⟩
theorem EncodeLength.bit_7_H : EncodeLength.Statement .bit_7_H := ⟨rfl, Nat.le_of_ble_eq_true rfl⟩
theorem EncodeLength.bit_7_L : EncodeLength.Statement .bit_7_L := ⟨rfl, Nat.le_of_ble_eq_true rfl⟩
theorem EncodeLength.bit_7_AtHL : EncodeLength.Statement .bit_7_AtHL := ⟨rfl, Nat.le_of_ble_eq_true rfl⟩
theorem EncodeLength.bit_7_A : EncodeLength.Statement .bit_7_A := ⟨rfl, Nat.le_of_ble_eq_true rfl⟩
theorem EncodeLength.res_0_B : EncodeLength.Statement .res_0_B := ⟨rfl, Nat.le_of_ble_eq_true rfl⟩
theorem EncodeLength.res_0_C : EncodeLength.Statement .res_0_C := ⟨rfl, Nat.le_of_ble_eq_true rfl⟩
theorem EncodeLength.res_0_D : EncodeLength.Statement .res_0_D := ⟨rfl, Nat.le_of_ble_eq_true rfl⟩
theorem EncodeLength.res_0_E : EncodeLength.Statement .res_0_E := ⟨rfl, Nat.le_of_ble_eq_true rfl⟩
theorem EncodeLength.res_0_H : EncodeLength.Statement .res_0_H := ⟨rfl, Nat.le_of_ble_eq_true rfl⟩
theorem EncodeLength.res_0_L : EncodeLength.Statement .res_0_L := ⟨rfl, Nat.le_of_ble_eq_true rfl⟩
theorem EncodeLength.res_0_AtHL : EncodeLength.Statement .res_0_AtHL := ⟨rfl, Nat.le_of_ble_eq_true rfl⟩
theorem EncodeLength.res_0_A : EncodeLength.Statement .res_0_A := ⟨rfl, Nat.le_of_ble_eq_true rfl⟩
theorem EncodeLength.res_1_B : EncodeLength.Statement .res_1_B := ⟨rfl, Nat.le_of_ble_eq_true rfl⟩
theorem EncodeLength.res_1_C : EncodeLength.Statement .res_1_C := ⟨rfl, Nat.le_of_ble_eq_true rfl⟩
theorem EncodeLength.res_1_D : EncodeLength.Statement .res_1_D := ⟨rfl, Nat.le_of_ble_eq_true rfl⟩
theorem EncodeLength.res_1_E : EncodeLength.Statement .res_1_E := ⟨rfl, Nat.le_of_ble_eq_true rfl⟩
theorem EncodeLength.res_1_H : EncodeLength.Statement .res_1_H := ⟨rfl, Nat.le_of_ble_eq_true rfl⟩
theorem EncodeLength.res_1_L : EncodeLength.Statement .res_1_L := ⟨rfl, Nat.le_of_ble_eq_true rfl⟩
theorem EncodeLength.res_1_AtHL : EncodeLength.Statement .res_1_AtHL := ⟨rfl, Nat.le_of_ble_eq_true rfl⟩
theorem EncodeLength.res_1_A : EncodeLength.Statement .res_1_A := ⟨rfl, Nat.le_of_ble_eq_true rfl⟩
theorem EncodeLength.res_2_B : EncodeLength.Statement .res_2_B := ⟨rfl, Nat.le_of_ble_eq_true rfl⟩
theorem EncodeLength.res_2_C : EncodeLength.Statement .res_2_C := ⟨rfl, Nat.le_of_ble_eq_true rfl⟩
theorem EncodeLength.res_2_D : EncodeLength.Statement .res_2_D := ⟨rfl, Nat.le_of_ble_eq_true rfl⟩
theorem EncodeLength.res_2_E : EncodeLength.Statement .res_2_E := ⟨rfl, Nat.le_of_ble_eq_true rfl⟩
theorem EncodeLength.res_2_H : EncodeLength.Statement .res_2_H := ⟨rfl, Nat.le_of_ble_eq_true rfl⟩
theorem EncodeLength.res_2_L : EncodeLength.Statement .res_2_L := ⟨rfl, Nat.le_of_ble_eq_true rfl⟩
theorem EncodeLength.res_2_AtHL : EncodeLength.Statement .res_2_AtHL := ⟨rfl, Nat.le_of_ble_eq_true rfl⟩
theorem EncodeLength.res_2_A : EncodeLength.Statement .res_2_A := ⟨rfl, Nat.le_of_ble_eq_true rfl⟩
theorem EncodeLength.res_3_B : EncodeLength.Statement .res_3_B := ⟨rfl, Nat.le_of_ble_eq_true rfl⟩
theorem EncodeLength.res_3_C : EncodeLength.Statement .res_3_C := ⟨rfl, Nat.le_of_ble_eq_true rfl⟩
theorem EncodeLength.res_3_D : EncodeLength.Statement .res_3_D := ⟨rfl, Nat.le_of_ble_eq_true rfl⟩
theorem EncodeLength.res_3_E : EncodeLength.Statement .res_3_E := ⟨rfl, Nat.le_of_ble_eq_true rfl⟩
theorem EncodeLength.res_3_H : EncodeLength.Statement .res_3_H := ⟨rfl, Nat.le_of_ble_eq_true rfl⟩
theorem EncodeLength.res_3_L : EncodeLength.Statement .res_3_L := ⟨rfl, Nat.le_of_ble_eq_true rfl⟩
theorem EncodeLength.res_3_AtHL : EncodeLength.Statement .res_3_AtHL := ⟨rfl, Nat.le_of_ble_eq_true rfl⟩
theorem EncodeLength.res_3_A : EncodeLength.Statement .res_3_A := ⟨rfl, Nat.le_of_ble_eq_true rfl⟩
theorem EncodeLength.res_4_B : EncodeLength.Statement .res_4_B := ⟨rfl, Nat.le_of_ble_eq_true rfl⟩
theorem EncodeLength.res_4_C : EncodeLength.Statement .res_4_C := ⟨rfl, Nat.le_of_ble_eq_true rfl⟩
theorem EncodeLength.res_4_D : EncodeLength.Statement .res_4_D := ⟨rfl, Nat.le_of_ble_eq_true rfl⟩
theorem EncodeLength.res_4_E : EncodeLength.Statement .res_4_E := ⟨rfl, Nat.le_of_ble_eq_true rfl⟩
theorem EncodeLength.res_4_H : EncodeLength.Statement .res_4_H := ⟨rfl, Nat.le_of_ble_eq_true rfl⟩
theorem EncodeLength.res_4_L : EncodeLength.Statement .res_4_L := ⟨rfl, Nat.le_of_ble_eq_true rfl⟩
theorem EncodeLength.res_4_AtHL : EncodeLength.Statement .res_4_AtHL := ⟨rfl, Nat.le_of_ble_eq_true rfl⟩
theorem EncodeLength.res_4_A : EncodeLength.Statement .res_4_A := ⟨rfl, Nat.le_of_ble_eq_true rfl⟩
theorem EncodeLength.res_5_B : EncodeLength.Statement .res_5_B := ⟨rfl, Nat.le_of_ble_eq_true rfl⟩
theorem EncodeLength.res_5_C : EncodeLength.Statement .res_5_C := ⟨rfl, Nat.le_of_ble_eq_true rfl⟩
theorem EncodeLength.res_5_D : EncodeLength.Statement .res_5_D := ⟨rfl, Nat.le_of_ble_eq_true rfl⟩
theorem EncodeLength.res_5_E : EncodeLength.Statement .res_5_E := ⟨rfl, Nat.le_of_ble_eq_true rfl⟩
theorem EncodeLength.res_5_H : EncodeLength.Statement .res_5_H := ⟨rfl, Nat.le_of_ble_eq_true rfl⟩
theorem EncodeLength.res_5_L : EncodeLength.Statement .res_5_L := ⟨rfl, Nat.le_of_ble_eq_true rfl⟩
theorem EncodeLength.res_5_AtHL : EncodeLength.Statement .res_5_AtHL := ⟨rfl, Nat.le_of_ble_eq_true rfl⟩
theorem EncodeLength.res_5_A : EncodeLength.Statement .res_5_A := ⟨rfl, Nat.le_of_ble_eq_true rfl⟩
theorem EncodeLength.res_6_B : EncodeLength.Statement .res_6_B := ⟨rfl, Nat.le_of_ble_eq_true rfl⟩
theorem EncodeLength.res_6_C : EncodeLength.Statement .res_6_C := ⟨rfl, Nat.le_of_ble_eq_true rfl⟩
theorem EncodeLength.res_6_D : EncodeLength.Statement .res_6_D := ⟨rfl, Nat.le_of_ble_eq_true rfl⟩
theorem EncodeLength.res_6_E : EncodeLength.Statement .res_6_E := ⟨rfl, Nat.le_of_ble_eq_true rfl⟩
theorem EncodeLength.res_6_H : EncodeLength.Statement .res_6_H := ⟨rfl, Nat.le_of_ble_eq_true rfl⟩
theorem EncodeLength.res_6_L : EncodeLength.Statement .res_6_L := ⟨rfl, Nat.le_of_ble_eq_true rfl⟩
theorem EncodeLength.res_6_AtHL : EncodeLength.Statement .res_6_AtHL := ⟨rfl, Nat.le_of_ble_eq_true rfl⟩
theorem EncodeLength.res_6_A : EncodeLength.Statement .res_6_A := ⟨rfl, Nat.le_of_ble_eq_true rfl⟩
theorem EncodeLength.res_7_B : EncodeLength.Statement .res_7_B := ⟨rfl, Nat.le_of_ble_eq_true rfl⟩
theorem EncodeLength.res_7_C : EncodeLength.Statement .res_7_C := ⟨rfl, Nat.le_of_ble_eq_true rfl⟩
theorem EncodeLength.res_7_D : EncodeLength.Statement .res_7_D := ⟨rfl, Nat.le_of_ble_eq_true rfl⟩
theorem EncodeLength.res_7_E : EncodeLength.Statement .res_7_E := ⟨rfl, Nat.le_of_ble_eq_true rfl⟩
theorem EncodeLength.res_7_H : EncodeLength.Statement .res_7_H := ⟨rfl, Nat.le_of_ble_eq_true rfl⟩
theorem EncodeLength.res_7_L : EncodeLength.Statement .res_7_L := ⟨rfl, Nat.le_of_ble_eq_true rfl⟩
theorem EncodeLength.res_7_AtHL : EncodeLength.Statement .res_7_AtHL := ⟨rfl, Nat.le_of_ble_eq_true rfl⟩
theorem EncodeLength.res_7_A : EncodeLength.Statement .res_7_A := ⟨rfl, Nat.le_of_ble_eq_true rfl⟩
theorem EncodeLength.set_0_B : EncodeLength.Statement .set_0_B := ⟨rfl, Nat.le_of_ble_eq_true rfl⟩
theorem EncodeLength.set_0_C : EncodeLength.Statement .set_0_C := ⟨rfl, Nat.le_of_ble_eq_true rfl⟩
theorem EncodeLength.set_0_D : EncodeLength.Statement .set_0_D := ⟨rfl, Nat.le_of_ble_eq_true rfl⟩
theorem EncodeLength.set_0_E : EncodeLength.Statement .set_0_E := ⟨rfl, Nat.le_of_ble_eq_true rfl⟩
theorem EncodeLength.set_0_H : EncodeLength.Statement .set_0_H := ⟨rfl, Nat.le_of_ble_eq_true rfl⟩
theorem EncodeLength.set_0_L : EncodeLength.Statement .set_0_L := ⟨rfl, Nat.le_of_ble_eq_true rfl⟩
theorem EncodeLength.set_0_AtHL : EncodeLength.Statement .set_0_AtHL := ⟨rfl, Nat.le_of_ble_eq_true rfl⟩
theorem EncodeLength.set_0_A : EncodeLength.Statement .set_0_A := ⟨rfl, Nat.le_of_ble_eq_true rfl⟩
theorem EncodeLength.set_1_B : EncodeLength.Statement .set_1_B := ⟨rfl, Nat.le_of_ble_eq_true rfl⟩
theorem EncodeLength.set_1_C : EncodeLength.Statement .set_1_C := ⟨rfl, Nat.le_of_ble_eq_true rfl⟩
theorem EncodeLength.set_1_D : EncodeLength.Statement .set_1_D := ⟨rfl, Nat.le_of_ble_eq_true rfl⟩
theorem EncodeLength.set_1_E : EncodeLength.Statement .set_1_E := ⟨rfl, Nat.le_of_ble_eq_true rfl⟩
theorem EncodeLength.set_1_H : EncodeLength.Statement .set_1_H := ⟨rfl, Nat.le_of_ble_eq_true rfl⟩
theorem EncodeLength.set_1_L : EncodeLength.Statement .set_1_L := ⟨rfl, Nat.le_of_ble_eq_true rfl⟩
theorem EncodeLength.set_1_AtHL : EncodeLength.Statement .set_1_AtHL := ⟨rfl, Nat.le_of_ble_eq_true rfl⟩
theorem EncodeLength.set_1_A : EncodeLength.Statement .set_1_A := ⟨rfl, Nat.le_of_ble_eq_true rfl⟩
theorem EncodeLength.set_2_B : EncodeLength.Statement .set_2_B := ⟨rfl, Nat.le_of_ble_eq_true rfl⟩
theorem EncodeLength.set_2_C : EncodeLength.Statement .set_2_C := ⟨rfl, Nat.le_of_ble_eq_true rfl⟩
theorem EncodeLength.set_2_D : EncodeLength.Statement .set_2_D := ⟨rfl, Nat.le_of_ble_eq_true rfl⟩
theorem EncodeLength.set_2_E : EncodeLength.Statement .set_2_E := ⟨rfl, Nat.le_of_ble_eq_true rfl⟩
theorem EncodeLength.set_2_H : EncodeLength.Statement .set_2_H := ⟨rfl, Nat.le_of_ble_eq_true rfl⟩
theorem EncodeLength.set_2_L : EncodeLength.Statement .set_2_L := ⟨rfl, Nat.le_of_ble_eq_true rfl⟩
theorem EncodeLength.set_2_AtHL : EncodeLength.Statement .set_2_AtHL := ⟨rfl, Nat.le_of_ble_eq_true rfl⟩
theorem EncodeLength.set_2_A : EncodeLength.Statement .set_2_A := ⟨rfl, Nat.le_of_ble_eq_true rfl⟩
theorem EncodeLength.set_3_B : EncodeLength.Statement .set_3_B := ⟨rfl, Nat.le_of_ble_eq_true rfl⟩
theorem EncodeLength.set_3_C : EncodeLength.Statement .set_3_C := ⟨rfl, Nat.le_of_ble_eq_true rfl⟩
theorem EncodeLength.set_3_D : EncodeLength.Statement .set_3_D := ⟨rfl, Nat.le_of_ble_eq_true rfl⟩
theorem EncodeLength.set_3_E : EncodeLength.Statement .set_3_E := ⟨rfl, Nat.le_of_ble_eq_true rfl⟩
theorem EncodeLength.set_3_H : EncodeLength.Statement .set_3_H := ⟨rfl, Nat.le_of_ble_eq_true rfl⟩
theorem EncodeLength.set_3_L : EncodeLength.Statement .set_3_L := ⟨rfl, Nat.le_of_ble_eq_true rfl⟩
theorem EncodeLength.set_3_AtHL : EncodeLength.Statement .set_3_AtHL := ⟨rfl, Nat.le_of_ble_eq_true rfl⟩
theorem EncodeLength.set_3_A : EncodeLength.Statement .set_3_A := ⟨rfl, Nat.le_of_ble_eq_true rfl⟩
theorem EncodeLength.set_4_B : EncodeLength.Statement .set_4_B := ⟨rfl, Nat.le_of_ble_eq_true rfl⟩
theorem EncodeLength.set_4_C : EncodeLength.Statement .set_4_C := ⟨rfl, Nat.le_of_ble_eq_true rfl⟩
theorem EncodeLength.set_4_D : EncodeLength.Statement .set_4_D := ⟨rfl, Nat.le_of_ble_eq_true rfl⟩
theorem EncodeLength.set_4_E : EncodeLength.Statement .set_4_E := ⟨rfl, Nat.le_of_ble_eq_true rfl⟩
theorem EncodeLength.set_4_H : EncodeLength.Statement .set_4_H := ⟨rfl, Nat.le_of_ble_eq_true rfl⟩
theorem EncodeLength.set_4_L : EncodeLength.Statement .set_4_L := ⟨rfl, Nat.le_of_ble_eq_true rfl⟩
theorem EncodeLength.set_4_AtHL : EncodeLength.Statement .set_4_AtHL := ⟨rfl, Nat.le_of_ble_eq_true rfl⟩
theorem EncodeLength.set_4_A : EncodeLength.Statement .set_4_A := ⟨rfl, Nat.le_of_ble_eq_true rfl⟩
theorem EncodeLength.set_5_B : EncodeLength.Statement .set_5_B := ⟨rfl, Nat.le_of_ble_eq_true rfl⟩
theorem EncodeLength.set_5_C : EncodeLength.Statement .set_5_C := ⟨rfl, Nat.le_of_ble_eq_true rfl⟩
theorem EncodeLength.set_5_D : EncodeLength.Statement .set_5_D := ⟨rfl, Nat.le_of_ble_eq_true rfl⟩
theorem EncodeLength.set_5_E : EncodeLength.Statement .set_5_E := ⟨rfl, Nat.le_of_ble_eq_true rfl⟩
theorem EncodeLength.set_5_H : EncodeLength.Statement .set_5_H := ⟨rfl, Nat.le_of_ble_eq_true rfl⟩
theorem EncodeLength.set_5_L : EncodeLength.Statement .set_5_L := ⟨rfl, Nat.le_of_ble_eq_true rfl⟩
theorem EncodeLength.set_5_AtHL : EncodeLength.Statement .set_5_AtHL := ⟨rfl, Nat.le_of_ble_eq_true rfl⟩
theorem EncodeLength.set_5_A : EncodeLength.Statement .set_5_A := ⟨rfl, Nat.le_of_ble_eq_true rfl⟩
theorem EncodeLength.set_6_B : EncodeLength.Statement .set_6_B := ⟨rfl, Nat.le_of_ble_eq_true rfl⟩
theorem EncodeLength.set_6_C : EncodeLength.Statement .set_6_C := ⟨rfl, Nat.le_of_ble_eq_true rfl⟩
theorem EncodeLength.set_6_D : EncodeLength.Statement .set_6_D := ⟨rfl, Nat.le_of_ble_eq_true rfl⟩
theorem EncodeLength.set_6_E : EncodeLength.Statement .set_6_E := ⟨rfl, Nat.le_of_ble_eq_true rfl⟩
theorem EncodeLength.set_6_H : EncodeLength.Statement .set_6_H := ⟨rfl, Nat.le_of_ble_eq_true rfl⟩
theorem EncodeLength.set_6_L : EncodeLength.Statement .set_6_L := ⟨rfl, Nat.le_of_ble_eq_true rfl⟩
theorem EncodeLength.set_6_AtHL : EncodeLength.Statement .set_6_AtHL := ⟨rfl, Nat.le_of_ble_eq_true rfl⟩
theorem EncodeLength.set_6_A : EncodeLength.Statement .set_6_A := ⟨rfl, Nat.le_of_ble_eq_true rfl⟩
theorem EncodeLength.set_7_B : EncodeLength.Statement .set_7_B := ⟨rfl, Nat.le_of_ble_eq_true rfl⟩
theorem EncodeLength.set_7_C : EncodeLength.Statement .set_7_C := ⟨rfl, Nat.le_of_ble_eq_true rfl⟩
theorem EncodeLength.set_7_D : EncodeLength.Statement .set_7_D := ⟨rfl, Nat.le_of_ble_eq_true rfl⟩
theorem EncodeLength.set_7_E : EncodeLength.Statement .set_7_E := ⟨rfl, Nat.le_of_ble_eq_true rfl⟩
theorem EncodeLength.set_7_H : EncodeLength.Statement .set_7_H := ⟨rfl, Nat.le_of_ble_eq_true rfl⟩
theorem EncodeLength.set_7_L : EncodeLength.Statement .set_7_L := ⟨rfl, Nat.le_of_ble_eq_true rfl⟩
theorem EncodeLength.set_7_AtHL : EncodeLength.Statement .set_7_AtHL := ⟨rfl, Nat.le_of_ble_eq_true rfl⟩
theorem EncodeLength.set_7_A : EncodeLength.Statement .set_7_A := ⟨rfl, Nat.le_of_ble_eq_true rfl⟩
theorem EncodeLength.in_B_PortC : EncodeLength.Statement .in_B_PortC := ⟨rfl, Nat.le_of_ble_eq_true rfl⟩
theorem EncodeLength.out_PortC_B : EncodeLength.Statement .out_PortC_B := ⟨rfl, Nat.le_of_ble_eq_true rfl⟩
theorem EncodeLength.in_C_PortC : EncodeLength.Statement .in_C_PortC := ⟨rfl, Nat.le_of_ble_eq_true rfl⟩
theorem EncodeLength.out_PortC_C : EncodeLength.Statement .out_PortC_C := ⟨rfl, Nat.le_of_ble_eq_true rfl⟩
theorem EncodeLength.in_D_PortC : EncodeLength.Statement .in_D_PortC := ⟨rfl, Nat.le_of_ble_eq_true rfl⟩
theorem EncodeLength.out_PortC_D : EncodeLength.Statement .out_PortC_D := ⟨rfl, Nat.le_of_ble_eq_true rfl⟩
theorem EncodeLength.in_E_PortC : EncodeLength.Statement .in_E_PortC := ⟨rfl, Nat.le_of_ble_eq_true rfl⟩
theorem EncodeLength.out_PortC_E : EncodeLength.Statement .out_PortC_E := ⟨rfl, Nat.le_of_ble_eq_true rfl⟩
theorem EncodeLength.in_H_PortC : EncodeLength.Statement .in_H_PortC := ⟨rfl, Nat.le_of_ble_eq_true rfl⟩
theorem EncodeLength.out_PortC_H : EncodeLength.Statement .out_PortC_H := ⟨rfl, Nat.le_of_ble_eq_true rfl⟩
theorem EncodeLength.in_L_PortC : EncodeLength.Statement .in_L_PortC := ⟨rfl, Nat.le_of_ble_eq_true rfl⟩
theorem EncodeLength.out_PortC_L : EncodeLength.Statement .out_PortC_L := ⟨rfl, Nat.le_of_ble_eq_true rfl⟩
theorem EncodeLength.in_A_PortC : EncodeLength.Statement .in_A_PortC := ⟨rfl, Nat.le_of_ble_eq_true rfl⟩
theorem EncodeLength.out_PortC_A : EncodeLength.Statement .out_PortC_A := ⟨rfl, Nat.le_of_ble_eq_true rfl⟩
theorem EncodeLength.sbc_HL_BC : EncodeLength.Statement .sbc_HL_BC := ⟨rfl, Nat.le_of_ble_eq_true rfl⟩
theorem EncodeLength.adc_HL_BC : EncodeLength.Statement .adc_HL_BC := ⟨rfl, Nat.le_of_ble_eq_true rfl⟩
theorem EncodeLength.sbc_HL_DE : EncodeLength.Statement .sbc_HL_DE := ⟨rfl, Nat.le_of_ble_eq_true rfl⟩
theorem EncodeLength.adc_HL_DE : EncodeLength.Statement .adc_HL_DE := ⟨rfl, Nat.le_of_ble_eq_true rfl⟩
theorem EncodeLength.sbc_HL_HL : EncodeLength.Statement .sbc_HL_HL := ⟨rfl, Nat.le_of_ble_eq_true rfl⟩
theorem EncodeLength.adc_HL_HL : EncodeLength.Statement .adc_HL_HL := ⟨rfl, Nat.le_of_ble_eq_true rfl⟩
theorem EncodeLength.sbc_HL_SP : EncodeLength.Statement .sbc_HL_SP := ⟨rfl, Nat.le_of_ble_eq_true rfl⟩
theorem EncodeLength.adc_HL_SP : EncodeLength.Statement .adc_HL_SP := ⟨rfl, Nat.le_of_ble_eq_true rfl⟩
theorem EncodeLength.neg : EncodeLength.Statement .neg := ⟨rfl, Nat.le_of_ble_eq_true rfl⟩
theorem EncodeLength.retn : EncodeLength.Statement .retn := ⟨rfl, Nat.le_of_ble_eq_true rfl⟩
theorem EncodeLength.reti : EncodeLength.Statement .reti := ⟨rfl, Nat.le_of_ble_eq_true rfl⟩
theorem EncodeLength.im_0 : EncodeLength.Statement .im_0 := ⟨rfl, Nat.le_of_ble_eq_true rfl⟩
theorem EncodeLength.im_1 : EncodeLength.Statement .im_1 := ⟨rfl, Nat.le_of_ble_eq_true rfl⟩
theorem EncodeLength.im_2 : EncodeLength.Statement .im_2 := ⟨rfl, Nat.le_of_ble_eq_true rfl⟩
theorem EncodeLength.ld_I_A : EncodeLength.Statement .ld_I_A := ⟨rfl, Nat.le_of_ble_eq_true rfl⟩
theorem EncodeLength.ld_R_A : EncodeLength.Statement .ld_R_A := ⟨rfl, Nat.le_of_ble_eq_true rfl⟩
theorem EncodeLength.ld_A_I : EncodeLength.Statement .ld_A_I := ⟨rfl, Nat.le_of_ble_eq_true rfl⟩
theorem EncodeLength.ld_A_R : EncodeLength.Statement .ld_A_R := ⟨rfl, Nat.le_of_ble_eq_true rfl⟩
theorem EncodeLength.rrd : EncodeLength.Statement .rrd := ⟨rfl, Nat.le_of_ble_eq_true rfl⟩
theorem EncodeLength.rld : EncodeLength.Statement .rld := ⟨rfl, Nat.le_of_ble_eq_true rfl⟩
theorem EncodeLength.ldi : EncodeLength.Statement .ldi := ⟨rfl, Nat.le_of_ble_eq_true rfl⟩
theorem EncodeLength.ldir : EncodeLength.Statement .ldir := ⟨rfl, Nat.le_of_ble_eq_true rfl⟩
theorem EncodeLength.ldd : EncodeLength.Statement .ldd := ⟨rfl, Nat.le_of_ble_eq_true rfl⟩
theorem EncodeLength.lddr : EncodeLength.Statement .lddr := ⟨rfl, Nat.le_of_ble_eq_true rfl⟩
theorem EncodeLength.cpi : EncodeLength.Statement .cpi := ⟨rfl, Nat.le_of_ble_eq_true rfl⟩
theorem EncodeLength.cpir : EncodeLength.Statement .cpir := ⟨rfl, Nat.le_of_ble_eq_true rfl⟩
theorem EncodeLength.cpd : EncodeLength.Statement .cpd := ⟨rfl, Nat.le_of_ble_eq_true rfl⟩
theorem EncodeLength.cpdr : EncodeLength.Statement .cpdr := ⟨rfl, Nat.le_of_ble_eq_true rfl⟩
theorem EncodeLength.ini : EncodeLength.Statement .ini := ⟨rfl, Nat.le_of_ble_eq_true rfl⟩
theorem EncodeLength.inir : EncodeLength.Statement .inir := ⟨rfl, Nat.le_of_ble_eq_true rfl⟩
theorem EncodeLength.ind : EncodeLength.Statement .ind := ⟨rfl, Nat.le_of_ble_eq_true rfl⟩
theorem EncodeLength.indr : EncodeLength.Statement .indr := ⟨rfl, Nat.le_of_ble_eq_true rfl⟩
theorem EncodeLength.outi : EncodeLength.Statement .outi := ⟨rfl, Nat.le_of_ble_eq_true rfl⟩
theorem EncodeLength.otir : EncodeLength.Statement .otir := ⟨rfl, Nat.le_of_ble_eq_true rfl⟩
theorem EncodeLength.outd : EncodeLength.Statement .outd := ⟨rfl, Nat.le_of_ble_eq_true rfl⟩
theorem EncodeLength.otdr : EncodeLength.Statement .otdr := ⟨rfl, Nat.le_of_ble_eq_true rfl⟩
theorem EncodeLength.add_IX_BC : EncodeLength.Statement .add_IX_BC := ⟨rfl, Nat.le_of_ble_eq_true rfl⟩
theorem EncodeLength.add_IX_DE : EncodeLength.Statement .add_IX_DE := ⟨rfl, Nat.le_of_ble_eq_true rfl⟩
theorem EncodeLength.add_IX_IX : EncodeLength.Statement .add_IX_IX := ⟨rfl, Nat.le_of_ble_eq_true rfl⟩
theorem EncodeLength.add_IX_SP : EncodeLength.Statement .add_IX_SP := ⟨rfl, Nat.le_of_ble_eq_true rfl⟩
theorem EncodeLength.inc_IX : EncodeLength.Statement .inc_IX := ⟨rfl, Nat.le_of_ble_eq_true rfl⟩
theorem EncodeLength.dec_IX : EncodeLength.Statement .dec_IX := ⟨rfl, Nat.le_of_ble_eq_true rfl⟩
theorem EncodeLength.pop_IX : EncodeLength.Statement .pop_IX := ⟨rfl, Nat.le_of_ble_eq_true rfl⟩
theorem EncodeLength.ex_AtSP_IX : EncodeLength.Statement .ex_AtSP_IX := ⟨rfl, Nat.le_of_ble_eq_true rfl⟩
theorem EncodeLength.push_IX : EncodeLength.Statement .push_IX := ⟨rfl, Nat.le_of_ble_eq_true rfl⟩
theorem EncodeLength.jp_AtIX : EncodeLength.Statement .jp_AtIX := ⟨rfl, Nat.le_of_ble_eq_true rfl⟩
theorem EncodeLength.ld_SP_IX : EncodeLength.Statement .ld_SP_IX := ⟨rfl, Nat.le_of_ble_eq_true rfl⟩
theorem EncodeLength.add_IY_BC : EncodeLength.Statement .add_IY_BC := ⟨rfl, Nat.le_of_ble_eq_true rfl⟩
theorem EncodeLength.add_IY_DE : EncodeLength.Statement .add_IY_DE := ⟨rfl, Nat.le_of_ble_eq_true rfl⟩
theorem EncodeLength.add_IY_IY : EncodeLength.Statement .add_IY_IY := ⟨rfl, Nat.le_of_ble_eq_true rfl⟩
theorem EncodeLength.add_IY_SP : EncodeLength.Statement .add_IY_SP := ⟨rfl, Nat.le_of_ble_eq_true rfl⟩
theorem EncodeLength.inc_IY : EncodeLength.Statement .inc_IY := ⟨rfl, Nat.le_of_ble_eq_true rfl⟩
theorem EncodeLength.dec_IY : EncodeLength.Statement .dec_IY := ⟨rfl, Nat.le_of_ble_eq_true rfl⟩
theorem EncodeLength.pop_IY : EncodeLength.Statement .pop_IY := ⟨rfl, Nat.le_of_ble_eq_true rfl⟩
theorem EncodeLength.ex_AtSP_IY : EncodeLength.Statement .ex_AtSP_IY := ⟨rfl, Nat.le_of_ble_eq_true rfl⟩
theorem EncodeLength.push_IY : EncodeLength.Statement .push_IY := ⟨rfl, Nat.le_of_ble_eq_true rfl⟩
theorem EncodeLength.jp_AtIY : EncodeLength.Statement .jp_AtIY := ⟨rfl, Nat.le_of_ble_eq_true rfl⟩
theorem EncodeLength.ld_SP_IY : EncodeLength.Statement .ld_SP_IY := ⟨rfl, Nat.le_of_ble_eq_true rfl⟩

end Sys2Proof.Laws
end

