-- ==== Sys2Proof/Laws/Vdp.lean ====
section
/-! SUPPORT. The laws of the VDP: what each of its operations leaves as it was, and that each keeps the canonical form of
VRAM and CRAM, the 192 entries of the scroll snapshots, and the time base. -/

namespace Sys2Proof.Machine

/-! ### The forms kept -/

/-- VRAM and CRAM are in canonical form. -/
abbrev Vdp.MemWf (v : Vdp) : Prop := Mem.wf 0x4000 v.vram ∧ Mem.wf 32 v.cram

/-- The scroll snapshots have 192 entries. -/
abbrev Vdp.ScrollWf (v : Vdp) : Prop := v.hscrollLine.length = 192 ∧ v.vscrollLine.length = 192

/-- The time base at clock `t`. -/
abbrev Vdp.TimingWf (t : Nat) (v : Vdp) : Prop :=
  v.lastVsync ≤ t ∧ v.lastVsync < v.lineTarget ∧ v.lineReload = v.reg 10

@[simp] theorem scrollFrom_length (n : Nat) (b : Byte) (l : List Byte) : (scrollFrom n b l).length = l.length := by
  simp only [scrollFrom, List.length_append, List.length_take, List.length_replicate]
  omega

/-- An entry of a snapshot after `ScrollSnapshot` (R527). -/
theorem scrollFrom_get (n : Nat) (b : Byte) (l : List Byte) (k : Nat) (hk : k < l.length) :
    (scrollFrom n b l)[k]'(by simpa using hk) = if k < n then l[k] else b := by
  unfold scrollFrom
  split
  · rename_i h
    rw [List.getElem_append_left (by simp; omega)]
    simp
  · rename_i h
    rw [List.getElem_append_right (by simp; omega)]
    simp

/-- A register after a register write. -/
theorem Vdp.reg_set (v : Vdp) (i j : BitVec 4) (b : Byte) :
    ({ v with vreg := v.vreg.set i.toNat b i.isLt } : Vdp).reg j = if j = i then b else v.reg j := by
  by_cases h : j = i
  · subst h; simp [Vdp.reg]
  · have hn : i.toNat ≠ j.toNat := fun e => h (BitVec.eq_of_toNat_eq e.symm)
    simp only [Vdp.reg, h, if_false]
    exact Vector.getElem_set_ne i.isLt j.isLt hn

/-! ### `registerWrite` (R526) -/

/-- What a register write does to every field. -/
theorem Vdp.registerWrite_eq (p : Params) (t : Nat) (i : BitVec 4) (b : Byte) (v : Vdp) :
    v.registerWrite p t i b =
      { v with
        vreg := v.vreg.set i.toNat b i.isLt
        hscrollLine := if i = 8 then scrollFrom (v.lineAt p t) b v.hscrollLine else v.hscrollLine
        vscrollLine := if i = 9 then scrollFrom (v.lineAt p t) b v.vscrollLine else v.vscrollLine
        lineReload := if i = 10 then b else v.lineReload } := by
  unfold Vdp.registerWrite
  by_cases h8 : i = 8
  · subst h8; rfl
  by_cases h9 : i = 9
  · subst h9; rfl
  by_cases h10 : i = 10
  · subst h10; rfl
  simp only [h8, h9, h10, if_false]

theorem Vdp.registerWrite_timing {p : Params} {t now : Nat} {v : Vdp} (h : v.TimingWf t) (i : BitVec 4) (b : Byte) :
    (v.registerWrite p now i b).TimingWf t := by
  rw [Vdp.registerWrite_eq]
  refine ⟨h.1, h.2.1, ?_⟩
  have := Vdp.reg_set v i 10 b
  simp only [Vdp.reg] at this h ⊢
  rw [this]
  by_cases h10 : i = 10
  · subst h10; rfl
  · rw [if_neg h10, if_neg (Ne.symm h10)]; exact h.2.2

theorem Vdp.registerWrite_scroll {p : Params} {now : Nat} {v : Vdp} (h : v.ScrollWf) (i : BitVec 4) (b : Byte) :
    (v.registerWrite p now i b).ScrollWf := by
  rw [Vdp.registerWrite_eq]
  refine ⟨?_, ?_⟩
  · show (if i = 8 then scrollFrom (v.lineAt p now) b v.hscrollLine else v.hscrollLine).length = 192
    split
    · rw [scrollFrom_length]; exact h.1
    · exact h.1
  · show (if i = 9 then scrollFrom (v.lineAt p now) b v.vscrollLine else v.vscrollLine).length = 192
    split
    · rw [scrollFrom_length]; exact h.2
    · exact h.2

/-! ### Ports (R521 to R524): each keeps the forms -/

theorem Vdp.dataRead_keeps (v : Vdp) {t : Nat} :
    (v.MemWf → v.dataRead.2.MemWf) ∧ (v.ScrollWf → v.dataRead.2.ScrollWf) ∧
      (v.TimingWf t → v.dataRead.2.TimingWf t) := ⟨id, id, id⟩

theorem Vdp.statusRead_keeps (v : Vdp) (x : Byte) {t : Nat} :
    (v.MemWf → (v.statusRead x).2.MemWf) ∧ (v.ScrollWf → (v.statusRead x).2.ScrollWf) ∧
      (v.TimingWf t → (v.statusRead x).2.TimingWf t) := ⟨id, id, id⟩

theorem Vdp.clearLatch_keeps (v : Vdp) {t : Nat} :
    (v.MemWf → v.clearLatch.MemWf) ∧ (v.ScrollWf → v.clearLatch.ScrollWf) ∧
      (v.TimingWf t → v.clearLatch.TimingWf t) := ⟨id, id, id⟩

theorem Vdp.controlWrite_keeps (p : Params) (now : Nat) (b : Byte) (v : Vdp) {t : Nat} :
    (v.MemWf → (v.controlWrite p now b).MemWf) ∧ (v.ScrollWf → (v.controlWrite p now b).ScrollWf) ∧
      (v.TimingWf t → (v.controlWrite p now b).TimingWf t) := by
  unfold Vdp.controlWrite
  simp only
  split
  · exact ⟨id, id, id⟩
  · split
    · refine ⟨fun h => ?_, fun h => ?_, fun h => ?_⟩
      · rw [Vdp.registerWrite_eq]; exact h
      · apply Vdp.registerWrite_scroll; exact h
      · apply Vdp.registerWrite_timing; exact h
    · split <;> exact ⟨id, id, id⟩

theorem Vdp.dataWrite_keeps (x b : Byte) (v : Vdp) {t : Nat} :
    (v.MemWf → (v.dataWrite x b).MemWf) ∧ (v.ScrollWf → (v.dataWrite x b).ScrollWf) ∧
      (v.TimingWf t → (v.dataWrite x b).TimingWf t) := by
  unfold Vdp.dataWrite
  simp only
  split
  · exact ⟨fun h => ⟨h.1, Mem.wf_write h.2 (Nat.mod_lt _ (by decide)) b⟩, id, id⟩
  · exact ⟨fun h => ⟨Mem.wf_write h.1 v.addr.isLt b, h.2⟩, id, id⟩

theorem Vdp.acknowledge_keeps (v : Vdp) {t : Nat} :
    (v.MemWf → v.acknowledge.MemWf) ∧ (v.ScrollWf → v.acknowledge.ScrollWf) ∧
      (v.TimingWf t → v.acknowledge.TimingWf t) := ⟨id, id, id⟩

/-! ### The update at the poll (R540 to R543) -/

/-- A property that the wrap, a line boundary and the frame interrupt keep is kept by the update. -/
theorem Vdp.update_induction {p : Params} {t : Nat} {P : Vdp → Prop} (v : Vdp) (hw : P v → P (v.wrap p t))
    (hl : ∀ w, P w → P (w.lineBoundary p)) (hb : ∀ w, P w → P (w.vblank p t)) (h : P v) : P (v.update p t) := by
  have lines : ∀ n w, P w → P (Vdp.lines p t n w) := by
    intro n
    induction n with
    | zero => exact fun w hw => hw
    | succ n ih =>
      intro w hw
      unfold Vdp.lines
      split
      · exact ih _ (hl w hw)
      · exact hw
  exact hb _ (lines _ _ (hw h))

/-- The update writes only the interrupt generator and the scroll snapshots. -/
theorem Vdp.update_frame (p : Params) (t : Nat) (v : Vdp) :
    let w := v.update p t
    w.vram = v.vram ∧ w.cram = v.cram ∧ w.vreg = v.vreg ∧ w.latchPending = v.latchPending ∧
      w.latchLow = v.latchLow ∧ w.code = v.code ∧ w.addr = v.addr ∧ w.readBuffer = v.readBuffer ∧
      w.lineReload = v.lineReload := by
  refine Vdp.update_induction (P := fun w => w.vram = v.vram ∧ w.cram = v.cram ∧ w.vreg = v.vreg ∧
    w.latchPending = v.latchPending ∧ w.latchLow = v.latchLow ∧ w.code = v.code ∧ w.addr = v.addr ∧
    w.readBuffer = v.readBuffer ∧ w.lineReload = v.lineReload) v ?_ ?_ ?_ ?_
  · intro h; unfold Vdp.wrap; split <;> exact h
  · intro w h; unfold Vdp.lineBoundary; split <;> exact h
  · intro w h; unfold Vdp.vblank; split <;> exact h
  · simp

theorem Vdp.update_scroll {p : Params} {t : Nat} {v : Vdp} (h : v.ScrollWf) : (v.update p t).ScrollWf := by
  refine Vdp.update_induction (P := Vdp.ScrollWf) v ?_ ?_ ?_ h
  · intro h; unfold Vdp.wrap; split
    · exact ⟨by simpa using h.1, by simpa using h.2⟩
    · exact h
  · intro w h; unfold Vdp.lineBoundary; split <;> exact h
  · intro w h; unfold Vdp.vblank; split <;> exact h

theorem Vdp.update_timing {p : Params} (hp : 0 < p.hsyncTime) {t : Nat} {v : Vdp} (h : v.TimingWf t) :
    (v.update p t).TimingWf t := by
  refine Vdp.update_induction (P := Vdp.TimingWf t) v ?_ ?_ ?_ h
  · intro h; unfold Vdp.wrap; split
    · exact ⟨Nat.le_refl t, Nat.lt_add_of_pos_right hp, h.2.2⟩
    · exact h
  · intro w h; unfold Vdp.lineBoundary; split
    · exact ⟨h.1, Nat.lt_of_lt_of_le h.2.1 (Nat.le_add_right _ _), h.2.2⟩
    · exact ⟨h.1, Nat.lt_of_lt_of_le h.2.1 (Nat.le_add_right _ _), h.2.2⟩
  · intro w h; unfold Vdp.vblank; split <;> exact h

theorem Vdp.update_mem {p : Params} {t : Nat} {v : Vdp} (h : v.MemWf) : (v.update p t).MemWf := by
  obtain ⟨h1, h2, -⟩ := Vdp.update_frame p t v
  exact ⟨h1 ▸ h.1, h2 ▸ h.2⟩

/-- The loop over line boundaries ends by its own condition, not for want of fuel. -/
theorem Vdp.lines_done {p : Params} (hp : 0 < p.hsyncTime) (t : Nat) :
    ∀ (n : Nat) (v : Vdp), t + 1 - v.lineTarget ≤ n →
      ¬ ((Vdp.lines p t n v).lineTarget ≤ t ∧
        (Vdp.lines p t n v).lineTarget < (Vdp.lines p t n v).lastVsync + p.vframeTime) := by
  intro n
  induction n with
  | zero => intro v h; unfold Vdp.lines; omega
  | succ n ih =>
    intro v h
    unfold Vdp.lines
    split
    · apply ih
      have : (v.lineBoundary p).lineTarget = v.lineTarget + p.hsyncTime := by
        unfold Vdp.lineBoundary; split <;> rfl
      omega
    · assumption

end Sys2Proof.Machine
end

