-- ==== Sys2Proof/Tests/Slice0.lean ====
section
/-! SUPPORT. Tests of the model. Expected values come from the spec: the encodings of 30_encoding.md, the vectors V of
95_test_vectors.md (each named where it is used), or the rule named. The `witness_` theorems show that the hypotheses of
the statements in Obligations.lean can be met, clause by clause. -/

open Sys2Proof Sys2Proof.Machine

/-! ## Helpers -/

/-- The state after one step with the given bytes at PC; the state itself if there is no next state. -/
def TestRun.one (bytes : List Byte) (s : State) : State :=
  match step (s.placeInstruction bytes) with
  | .next t => t
  | _ => s

/-- Reset with changed registers. -/
def TestRun.regs (f : Regs → Regs) : State := State.reset.mapRegs f

/-- The state with a byte of system RAM. -/
def TestRun.ram (a : Word) (v : Byte) (s : State) : State := s.write a v

/-- PC and the clock. -/
def TestRun.pcAndClock (s : State) : Word × Nat := (s.pc, s.cycles)

/-- Reset with the parameter `ADMIT_UNLISTED` false. -/
def TestRun.listedOnly : Params := { Params.standard with admitUnlisted := false }

/-- Reset with another control byte at 0xFFFC. -/
def TestRun.withCtl (v : Byte) : State := { State.reset with mem := { Mapper.reset with ctl := v } }

/-- A state in which the frame interrupt is pending, enabled and accepted, in a given mode (V60.18, V60.19). -/
def TestRun.irq (m : IntMode) : State :=
  { State.reset with
    iff1 := true, iff2 := true, im := m, pc := 0x0100, cycles := 47900
    regs := { Regs.reset with sp := 0xC100 }
    vdp := { Vdp.reset Params.standard with
      vreg := (Vector.replicate 16 0).set 1 0x20, vintPending := true, vintDone := true, lineTarget := 47952 } }

/-! ## WellFormed: the one check refuses every row of class `unlisted` (R160, D1) -/

theorem test_wellFormed_refuses_unlisted :
    ([.reti, .retn, .rld, .rrd, .cpd, .cpdr, .ind, .indr, .otdr, .ld_I_A, .ld_R_A, .ld_BC_AtNN 0, .ld_AtNN_SP 0] :
      List Instr).all (fun i => !decide (WellFormed TestRun.listedOnly i)) = true := by decide

theorem test_wellFormed_admits_the_rest :
    ([.nop, .ld_A_I, .ld_A_R, .cpi, .ini, .outd, .sll_A, .bit_0_AtIXd 1 0, .ld_HL_AtNN 0] : List Instr).all
      (fun i => decide (WellFormed TestRun.listedOnly i)) = true := by decide

theorem test_wellFormed_default_admits_reti : WellFormed Params.standard .reti := by decide

theorem test_decode_refuses_unlisted :
    decodeAdmitted TestRun.listedOnly [0xED, 0x4D, 0, 0] = .unknown [0xED, 0x4D] := by rfl

/-! ## Decode: words written out from the encodings of 30_encoding.md -/

/-- R171: `01 rrr r'r'r'`, `00 rrr 110 n`, `DD 01 rrr 110 d`, `36 n`. -/
theorem test_decode_load8 :
    decode [0b01000001] = .instr .ld_B_C [] ∧ decode [0b00111110, 0xFF] = .instr (.ld_A_n 0xFF) [] ∧
      decode [0xDD, 0b01111110, 0xFE] = .instr (.ld_A_AtIXd 0xFE) [] ∧
      decode [0xFD, 0b01110111, 0x7F] = .instr (.ld_AtIYd_A 0x7F) [] ∧
      decode [0xDD, 0x36, 0x05, 0xEE] = .instr (.ld_AtIXd_n 0x05 0xEE) [] := by
  refine ⟨?_, ?_, ?_, ?_, ?_⟩ <;> rfl

/-- `00 rp 0001 nn`, low byte first; `ED 01 rp 0011 nn`; `11 rp2 0101`. -/
theorem test_decode_load16 :
    decode [0b00110001, 0xF0, 0xDF] = .instr (.ld_SP_nn 0xDFF0) [] ∧
      decode [0xED, 0b01110011, 0x10, 0xC0] = .instr (.ld_AtNN_SP 0xC010) [] ∧
      decode [0b11110101] = .instr .push_AF [] ∧ decode [0xFD, 0xE3] = .instr .ex_AtSP_IY [] := by
  refine ⟨?_, ?_, ?_, ?_⟩ <;> rfl

/-- `10 ooo rrr`, `11 ooo 110 n`, `00 rrr 10x`. -/
theorem test_decode_alu8 :
    decode [0b10001000] = .instr .adc_A_B [] ∧ decode [0b11111110, 0x10] = .instr (.cp_n 0x10) [] ∧
      decode [0xDD, 0b10000110, 0x01] = .instr (.add_A_AtIXd 0x01) [] ∧ decode [0b00100101] = .instr .dec_H [] := by
  refine ⟨?_, ?_, ?_, ?_⟩ <;> rfl

/-- `00 rp 1001`, `ED 01 rp 1010`, `DD 00 10 1001`. -/
theorem test_decode_alu16 :
    decode [0b00001001] = .instr .add_HL_BC [] ∧ decode [0xED, 0b01011010] = .instr .adc_HL_DE [] ∧
      decode [0xDD, 0b00101001] = .instr .add_IX_IX [] ∧ decode [0b00111011] = .instr .dec_SP [] := by
  refine ⟨?_, ?_, ?_, ?_⟩ <;> rfl

/-- `CB 00 ooo rrr`, `CB 01 bbb rrr`, `DD CB d 00 ooo 110`, and an alias of BIT (R176). -/
theorem test_decode_rotate_bit :
    decode [0xCB, 0b00110111] = .instr .sll_A [] ∧ decode [0xCB, 0b01111111] = .instr .bit_7_A [] ∧
      decode [0xDD, 0xCB, 0x02, 0b00000110] = .instr (.rlc_AtIXd 0x02) [] ∧
      decode [0xFD, 0xCB, 0xFF, 0b10111110] = .instr (.res_7_AtIYd 0xFF) [] ∧
      decode [0xDD, 0xCB, 0x01, 0b01000000] = .instr (.bit_0_AtIXd 0x01 0) [] := by
  refine ⟨?_, ?_, ?_, ?_, ?_⟩ <;> rfl

/-- `11 ccc 010 nn`, `00 1cc 000 e`, `11 ppp 111`. -/
theorem test_decode_control :
    decode [0b11101010, 0x00, 0x10] = .instr (.jp_PE_nn 0x1000) [] ∧
      decode [0b00111000, 0x05] = .instr (.jr_C_e 0x05) [] ∧ decode [0b11111111] = .instr .rst_38 [] ∧
      decode [0xED, 0x4D] = .instr .reti [] := by
  refine ⟨?_, ?_, ?_, ?_⟩ <;> rfl

/-- `D3 n`, `ED 01 rrr 000`, the block forms. -/
theorem test_decode_io_block :
    decode [0xD3, 0xBF] = .instr (.out_PortN_A 0xBF) [] ∧ decode [0xED, 0b01010000] = .instr .in_D_PortC [] ∧
      decode [0xED, 0xB3] = .instr .otir [] ∧ decode [0xED, 0xA9] = .instr .cpd [] ∧
      decode [0xED, 0x5E] = .instr .im_2 [] ∧ decode [0x27] = .instr .daa [] := by
  refine ⟨?_, ?_, ?_, ?_, ?_, ?_⟩ <;> rfl

/-- V44.17, V49.19, V49.20: sequences that spell no instruction (R177). -/
theorem test_decode_unknown :
    decode [0xDD, 0xCB, 0x00, 0x00] = .unknown [0xDD, 0xCB, 0x00, 0x00] ∧
      decode [0xED, 0x00, 0, 0] = .unknown [0xED, 0x00] ∧ decode [0xDD, 0x00, 0, 0] = .unknown [0xDD, 0x00] := by
  refine ⟨?_, ?_, ?_⟩ <;> rfl

/-- The table's numbering: the second byte is bits 15 to 8, and the operand bytes above are zero. -/
theorem test_table_word :
    decodeTableWord 16 0x57ED = some .ld_A_I ∧ decodeTableWord 8 0x3E = some (.ld_A_n 0) := by
  exact ⟨rfl, rfl⟩

/-! ## One step, against the vectors -/

/-- V40.1 and V49.2. -/
theorem test_ld_r_r :
    (let t := TestRun.one [0x41] (TestRun.regs fun g => { g with c := 0x5A })
     (t.regs.b, t.r, t.pc, t.cycles)) = (0x5A, 0x01, 0x0001, 4) := by rfl

/-- V40.6. -/
theorem test_ld_a_ixd :
    (let t := TestRun.one [0xDD, 0x7E, 0xFE] (TestRun.ram 0xC000 0x77 (TestRun.regs fun g => { g with ix := 0xC002 }))
     (t.regs.a, t.r, t.pc, t.cycles)) = (0x77, 0x02, 0x0003, 19) := by rfl

/-- V40.20: a store to ROM is dropped. -/
theorem test_ld_hl_n_rom :
    (let t := TestRun.one [0x36, 0x00] (TestRun.regs fun g => { g with h := 0x10 })
     (t.mem, t.pc, t.cycles)) = (Mapper.reset, 0x0002, 10) := by rfl

/-- V40.21: a store at 0xFFFF writes RAM and the selector. -/
theorem test_ld_hl_a_selector :
    (let t := TestRun.one [0x77] (TestRun.regs fun g => { g with h := 0xFF, l := 0xFF, a := 0x03 })
     (t.mem.n2, t.read 0xDFFF, t.pc, t.cycles)) = (0x03, 0x03, 0x0001, 7) := by rfl

/-- V40.17: LD A,R with `R_READ_EXACT`. -/
theorem test_ld_a_r_exact :
    (let t := TestRun.one [0xED, 0x5F]
       { State.reset with r := 0x7F, iff2 := true, params := { Params.standard with rReadExact := true } }
     (t.regs.a, t.r, t.pc, t.cycles)) = (0x01, 0x01, 0x0002, 9) := by rfl

/-- V40.19: LD R,A. -/
theorem test_ld_r_a :
    (let t := TestRun.one [0xED, 0x4F] (TestRun.regs fun g => { g with a := 0x80 })
     (t.r, t.pc, t.cycles)) = (0x80, 0x0002, 9) := by rfl

/-- V41.8. -/
theorem test_ld_iy_atnn :
    (let t := TestRun.one [0xFD, 0x2A, 0x00, 0xC0] (TestRun.ram 0xC000 0x01 (TestRun.ram 0xC001 0x80 State.reset))
     (t.regs.iy, t.pc, t.cycles)) = (0x8001, 0x0004, 20) := by rfl

/-- V41.15: the stack wraps onto the selectors. -/
theorem test_push_wraps :
    (let t := TestRun.one [0xE5] (TestRun.regs fun g => { g with h := 0x03, l := 0x02, sp := 0x0000 })
     (t.regs.sp, t.mem.n1, t.mem.n2, t.read 0xDFFE, t.read 0xDFFF, t.pc, t.cycles)) =
      (0xFFFE, 0x02, 0x03, 0x02, 0x03, 0x0001, 11) := by rfl

/-- V41.13. -/
theorem test_pop_af :
    (let t := TestRun.one [0xF1]
       (TestRun.ram 0xC0FE 0xD7 (TestRun.ram 0xC0FF 0x12 (TestRun.regs fun g => { g with sp := 0xC0FE })))
     (t.regs.a, t.regs.f, t.regs.sp, t.pc, t.cycles)) = (0x12, 0b11010111, 0xC100, 0x0001, 10) := by rfl

/-- V41.18. -/
theorem test_exx :
    (let t := TestRun.one [0xD9] (TestRun.regs fun g =>
       { g with b := 1, c := 2, h := 5, l := 6, bcShadow := 0x1112, hlShadow := 0x1516 })
     (t.regs.b, t.regs.c, t.regs.h, t.regs.l, t.regs.bcShadow, t.regs.hlShadow)) =
      (0x11, 0x12, 0x15, 0x16, 0x0102, 0x0506) := by rfl

/-- V41.20. -/
theorem test_ex_sp_hl :
    (let t := TestRun.one [0xE3] (TestRun.ram 0xC100 0x78 (TestRun.ram 0xC101 0x56
       (TestRun.regs fun g => { g with h := 0x12, l := 0x34, sp := 0xC100 })))
     (t.regs.h, t.regs.l, t.read 0xC100, t.read 0xC101, t.pc, t.cycles)) = (0x56, 0x78, 0x34, 0x12, 0x0001, 19) := by rfl

/-- V42.1, V42.2, V42.5, V42.6: results and documented flags of the 8-bit sums and differences. -/
theorem test_add8_sub8 :
    add8 0xFF 0xFF true = (0xFF, 0b10010001) ∧ sub8 0x00 0x01 false = (0xFF, 0b10010011) ∧
      add8 0x7F 0x00 true = (0x80, 0b10010100) ∧ sub8 0x80 0x01 false = (0x7F, 0b00010110) := by
  refine ⟨?_, ?_, ?_, ?_⟩ <;> rfl

/-- V42.9, V42.10, V42.11. -/
theorem test_logic8 :
    aluResult .and 0xF0 0x0F true = (0x00, 0b01010100) ∧ aluResult .xor 0x36 0xFF false = (0xC9, 0b10000100) ∧
      aluResult .or 0x28 0x01 false = (0x29, 0b00000000) := by
  refine ⟨?_, ?_, ?_⟩ <;> rfl

/-- V42.8: a source that is also the destination. -/
theorem test_sbc_a_a :
    (let t := TestRun.one [0x9F] (TestRun.regs fun g => { g with a := 0x42, f := 0x01 })
     (t.regs.a, t.pc, t.cycles)) = (0xFF, 0x0001, 4) := by rfl

/-- V42.14: CP leaves A. -/
theorem test_cp_hl :
    (let t := TestRun.one [0xBE] (TestRun.ram 0xC000 0x20 (TestRun.regs fun g => { g with a := 0x10, h := 0xC0 }))
     (t.regs.a, t.pc, t.cycles)) = (0x10, 0x0001, 7) := by rfl

/-- V42.16, V42.19, V42.20 (C aside). -/
theorem test_inc8_dec8 :
    inc8 0x7F = (0x80, 0b10010100) ∧ dec8 0x80 = (0x7F, 0b00010110) ∧ dec8 0x00 = (0xFF, 0b10010010) := by
  refine ⟨?_, ?_, ?_⟩ <;> rfl

/-- V42.23. -/
theorem test_inc_ixd :
    (let t := TestRun.one [0xDD, 0x34, 0x05] (TestRun.ram 0xC005 0xFF (TestRun.regs fun g => { g with ix := 0xC000 }))
     (t.read 0xC005, t.r, t.pc, t.cycles)) = (0x00, 0x02, 0x0003, 23) := by rfl

/-- V43.1, V43.2, V43.5, V43.6. -/
theorem test_add16_sbc16 :
    add16 0x3FFF 0x7001 true = (0xB001, 0b10010100) ∧ add16 0x0FFF 0x0001 false = (0x1000, 0b00010000) ∧
      sbc16 0x0000 0x0001 false = (0xFFFF, 0b10010011) ∧ sbc16 0x1234 0x1234 false = (0x0000, 0b01000010) := by
  refine ⟨?_, ?_, ?_, ?_⟩ <;> rfl

/-- V43.7. -/
theorem test_add_ix_ix :
    (let t := TestRun.one [0xDD, 0x29] (TestRun.regs fun g => { g with ix := 0x8000 })
     (t.regs.ix, t.pc, t.cycles)) = (0x0000, 0x0002, 15) := by rfl

/-- V44.5 to V44.12: result and carry. -/
theorem test_rotBits :
    (rotBits .rlc 0x80 false, rotBits .rrc 0x01 false, rotBits .rl 0x80 true, rotBits .rr 0x01 false) =
        ((0x01, true), (0x80, true), (0x01, true), (0x00, true)) ∧
      (rotBits .sla 0x80 false, rotBits .sra 0x81 false, rotBits .sll 0x01 false, rotBits .srl 0x01 false) =
        ((0x00, true), (0xC0, true), (0x03, false), (0x00, true)) := by
  exact ⟨rfl, rfl⟩

/-- V44.15 and V44.16. -/
theorem test_rld_rrd :
    (let s := TestRun.ram 0xC000 0x34 (TestRun.regs fun g => { g with a := 0x12, h := 0xC0 })
     let t := TestRun.one [0xED, 0x6F] s
     let u := TestRun.one [0xED, 0x67] s
     (t.regs.a, t.read 0xC000, u.regs.a, u.read 0xC000)) = (0x13, 0x42, 0x14, 0x23) := by rfl

/-- V45.8 and V45.9. -/
theorem test_set_res :
    (let t := TestRun.one [0xCB, 0xC6] (TestRun.ram 0xC000 0x80 (TestRun.regs fun g => { g with h := 0xC0 }))
     let u := TestRun.one [0xFD, 0xCB, 0xFF, 0xBE] (TestRun.ram 0xC000 0xFF (TestRun.regs fun g => { g with iy := 0xC001 }))
     (t.read 0xC000, t.pc, t.cycles, u.read 0xC000, u.pc, u.cycles)) = (0x81, 0x0002, 15, 0x7F, 0x0004, 23) := by rfl

/-- V45.1: the documented flags of BIT 7,A on 0x80 are Z = 0, H = 1, N = 0, C kept (for every free value). -/
theorem test_bit_flags (x : Byte) :
    (let f := mergeF maskZHN maskBitDrawn 0x01 (flagByte false false true false false false) x
     (flagZ f, flagH f, flagN f, flagC f)) = (false, true, false, true) := by
  have h := mergeF_bit 0x01 (flagByte false false true false false false) x
  simp only [h.1, h.2.1, h.2.2.1, h.2.2.2]
  rfl

/-- V46.10: a relative jump wraps below 0. -/
theorem test_jr_wraps : (TestRun.pcAndClock (TestRun.one [0x18, 0x80] { State.reset with pc := 0x0010 })) = (0xFF92, 12) := by rfl

/-- V46.14: DJNZ with B = 0. -/
theorem test_djnz_wraps :
    (let t := TestRun.one [0x10, 0xFE] State.reset
     (t.regs.b, t.pc, t.cycles)) = (0xFF, 0x0000, 13) := by rfl

/-- V46.17. -/
theorem test_call_c :
    (let t := TestRun.one [0xDC, 0x00, 0x10] (TestRun.regs fun g => { g with sp := 0xC100, f := 0x01 })
     (t.regs.sp, t.read 0xC0FE, t.read 0xC0FF, t.pc, t.cycles)) = (0xC0FE, 0x03, 0x00, 0x1000, 17) := by rfl

/-- V46.20: RET Z not taken. -/
theorem test_ret_z_not_taken :
    (let t := TestRun.one [0xC8] (TestRun.regs fun g => { g with sp := 0xC0FE })
     (t.regs.sp, t.pc, t.cycles)) = (0xC0FE, 0x0001, 5) := by rfl

/-- V46.22. -/
theorem test_retn :
    (let t := TestRun.one [0xED, 0x45] { TestRun.ram 0xC0FE 0x34 (TestRun.ram 0xC0FF 0x12
       (TestRun.regs fun g => { g with sp := 0xC0FE })) with iff2 := true }
     (t.iff1, t.regs.sp, t.pc, t.cycles)) = (true, 0xC100, 0x1234, 14) := by rfl

/-- V47.1: an external port. -/
theorem test_in_external :
    (let t := TestRun.one [0xDB, 0xDC] { State.reset with params := { Params.standard with extPorts := [(0xDC, 0xEF)] } }
     (t.regs.a, t.pc, t.cycles)) = (0xEF, 0x0002, 11) := by rfl

/-- V47.6: a data port write. -/
theorem test_out_data :
    (let t := TestRun.one [0xED, 0x79] (TestRun.regs fun g => { g with c := 0xBE, a := 0x55 })
     (Mem.read t.vdp.vram 0, t.vdp.addr, t.pc, t.cycles)) = (0x55, 0x0001, 0x0002, 12) := by rfl

/-- V47.11: OTIR repeats at its own address. -/
theorem test_otir_repeats :
    (let t := TestRun.one [0xED, 0xB3] (TestRun.ram 0xC000 0xAA
       (TestRun.regs fun g => { g with b := 2, c := 0xBE, h := 0xC0 }))
     (t.regs.b, t.regs.l, Mem.read t.vdp.vram 0, t.pc, t.cycles)) = (0x01, 0x01, 0xAA, 0x0000, 21) := by rfl

/-- V48.5: LDIR with BC = 0. -/
theorem test_ldir_wraps :
    (let t := TestRun.one [0xED, 0xB0] (TestRun.ram 0xC000 0x33 (TestRun.regs fun g => { g with h := 0xC0, d := 0xD0 }))
     (t.regs.b, t.regs.c, t.regs.e, t.read 0xD000, t.pc, t.cycles)) = (0xFF, 0xFF, 0x01, 0x33, 0x0000, 21) := by rfl

/-- V48.11: CPDR ends with BC = 0. -/
theorem test_cpdr_ends :
    (let t := TestRun.one [0xED, 0xB9] (TestRun.ram 0xC001 0x20
       (TestRun.regs fun g => { g with a := 0x10, h := 0xC0, l := 1, c := 1 }))
     (t.regs.c, t.regs.l, t.pc, t.cycles)) = (0x00, 0x00, 0x0002, 16) := by rfl

/-- V49.16 to V49.18; N is kept by the instruction. -/
theorem test_daa :
    daaResult 0x3C false false false = (0x42, 0b00010100) ∧ daaResult 0x0F true true false = (0x09, 0b00000100) ∧
      daaResult 0x9A false false false = (0x00, 0b01010101) := by
  refine ⟨?_, ?_, ?_⟩ <;> rfl

/-- V49.11: NEG of 0x80. -/
theorem test_neg_corner : sub8 0x00 0x80 false = (0x80, 0b10000111) := by rfl

/-- V49.4: a halted step. -/
theorem test_halted :
    (let t := TestRun.one [0x76] State.reset
     let u := (match step t with | .next u => u | _ => t)
     (t.halted, u.halted, u.r, u.pc, u.cycles)) = (true, true, 0x02, 0x0001, 8) := by rfl

/-- V49.19: UnknownOpcode before any effect. -/
theorem test_unknown_opcode :
    (let t := TestRun.one [0xED, 0x00] State.reset
     (t.fault, t.r, t.pc, t.cycles)) = (some (.unknownOpcode 0x0000 [0xED, 0x00] 0), 0x00, 0x0000, 0) := by rfl

/-- R601: a reset while running keeps the cartridge, and cartridge RAM and the selectors are as R600 gives them again. -/
theorem test_reset_again :
    (let s := { TestRun.withCtl 0x08 with pc := 0x1234, cart := { rom := [(0, 0x76)], numBanks := 3 } }
     let t := (s.write 0x8000 0x55).resetAgain
     ((s.write 0x8000 0x55).read 0x8000, t.pc, t.cart.numBanks, t.read 0x0000, t.mem.ctl, Mem.read t.mem.cartRam0 0)) =
      (0x55, 0x0000, 3, 0x76, 0x00, 0x00) := by decide

/-- R601, R384: RST 0 goes to 0x0000 and resets nothing. -/
theorem test_rst_0 :
    (let t := TestRun.one [0xC7] { TestRun.regs fun g => { g with a := 0x42, sp := 0xC100 } with iff1 := true, im := .im1 }
     (t.pc, t.regs.a, t.regs.sp, t.iff1, t.im, t.cycles)) = (0x0000, 0x42, 0xC0FE, true, .im1, 11) := by rfl

/-! ## The VDP and the interrupt, against the vectors -/

/-- V60.1, its last write: register 1. -/
theorem test_vdp_register_write :
    (let t := { State.reset with
       vdp := { Vdp.reset Params.standard with latchPending := true, latchLow := 0x20 } }.portWrite 0xBF 0x81
     (t.vdp.reg 1, t.vdp.code, t.vdp.latchPending)) = (0x20, 2, false) := by rfl

/-- V60.9, its write: the address wraps. -/
theorem test_vdp_address_wraps :
    (let t := { State.reset with vdp := { Vdp.reset Params.standard with addr := 0x3FFF } }.portWrite 0xBE 0x01
     (Mem.read t.vdp.vram 0x3FFF, t.vdp.addr)) = (0x01, 0x0000) := by rfl

/-- V60.5: a status read. -/
theorem test_vdp_status_read :
    (let t := (State.portRead { State.reset with
       vdp := { Vdp.reset Params.standard with vintPending := true, hintPending := true, latchPending := true } } 0xBF).2
     (t.vdp.vintPending, t.vdp.hintPending, t.vdp.latchPending)) = (false, false, false) := by rfl

/-- V60.13 and V60.14: the line interrupt with L = 2. -/
theorem test_line_interrupt :
    (let v := { Vdp.reset Params.standard with lineReload := 2, lineCounter := 2 }
     let a := v.update Params.standard 647
     let b := v.update Params.standard 648
     (a.hintPending, a.lineCounter, a.lineTarget, b.hintPending, b.lineCounter, b.lineTarget)) =
      (false, 0, 648, true, 2, 864) := by decide

/-- V60.12 and the case before it: the frame interrupt, once per frame. -/
theorem test_frame_interrupt :
    (let v := { Vdp.reset Params.standard with lineTarget := 47952 }
     let a := v.update Params.standard 47802
     let b := v.update Params.standard 47803
     (a.vintPending, b.vintPending, b.vintDone)) = (false, true, true) := by rfl

/-- V60.18: interrupt acceptance in IM 1; the step then runs the NOP at 0x0038. -/
theorem test_interrupt_im1 :
    (let t := (match step (TestRun.irq .im1) with | .next t => t | _ => State.reset)
     (t.r, t.regs.sp, t.pc, t.iff1, t.iff2, t.vdp.vintPending, t.read 0xC0FE, t.read 0xC0FF, t.cycles)) =
      (0x02, 0xC0FE, 0x0039, false, false, false, 0x00, 0x01, 47917) := by rfl

/-- V60.19: the same with IM 0. -/
theorem test_interrupt_im0 :
    (let t := (match step (TestRun.irq .im0) with | .next t => t | _ => State.reset)
     (t.fault, t.regs.sp, t.pc, t.cycles)) = (some (.unsupportedInterruptMode 0x0100 [] 47900), 0xC100, 0x0100, 47900) := by rfl

/-! ## Witnesses: the hypotheses of each statement can be met, clause by clause

A statement over `i.op = o` is met in every state, so its witness is an instruction of each form. -/

theorem witness_LoadRegister :
    Instr.op .ld_B_C = .ldRegReg .b .c ∧ Instr.op (.ld_A_n 0xFF) = .ldRegImm .a 0xFF ∧
      Instr.op .ld_H_AtHL = .ldRegHL .h ∧ Instr.op (.ld_A_AtIYd 0x80) = .ldRegIdx .a .iy 0x80 ∧
      Instr.op .ld_A_AtBC = .ldABC ∧ Instr.op .ld_A_AtDE = .ldADE ∧ Instr.op (.ld_A_AtNN 0xFFFF) = .ldAMem 0xFFFF := by
  refine ⟨?_, ?_, ?_, ?_, ?_, ?_, ?_⟩ <;> rfl

theorem witness_StoreByte :
    Instr.op .ld_AtHL_L = .ldHLReg .l ∧ Instr.op (.ld_AtHL_n 0) = .ldHLImm 0 ∧
      Instr.op (.ld_AtIXd_A 0x7F) = .ldIdxReg .ix 0x7F .a ∧ Instr.op (.ld_AtIYd_n 0x80 0xFF) = .ldIdxNum .iy 0x80 0xFF ∧
      Instr.op .ld_AtBC_A = .ldBCA ∧ Instr.op .ld_AtDE_A = .ldDEA ∧ Instr.op (.ld_AtNN_A 0xFFFF) = .ldMemA 0xFFFF := by
  refine ⟨?_, ?_, ?_, ?_, ?_, ?_, ?_⟩ <;> rfl

theorem witness_InterruptAndRefreshLoads :
    Instr.op .ld_A_I = .ldAI ∧ Instr.op .ld_A_R = .ldAR ∧ Instr.op .ld_I_A = .ldIA ∧ Instr.op .ld_R_A = .ldRA := by
  refine ⟨?_, ?_, ?_, ?_⟩ <;> rfl

theorem witness_LoadWord :
    Instr.op (.ld_SP_nn 0xFFFF) = .ldPairImm .sp 0xFFFF ∧ Instr.op (.ld_IY_nn 0) = .ldIdxImm .iy 0 ∧
      Instr.op .ld_SP_HL = .ldSPHL ∧ Instr.op .ld_SP_IX = .ldSPIdx .ix := by
  refine ⟨?_, ?_, ?_, ?_⟩ <;> rfl

theorem witness_LoadAndStoreWordAtAddress :
    Instr.op (.ld_HL_AtNN 0xFFFF) = .ldHLMem 0xFFFF ∧ Instr.op (.ld_AtNN_HL 0xFFFF) = .ldMemHL 0xFFFF ∧
      Instr.op (.ld_BC_AtNN 0xFFFF) = .ldPairMem .bc 0xFFFF ∧ Instr.op (.ld_AtNN_SP 0xFFFF) = .ldMemPair 0xFFFF .sp ∧
      Instr.op (.ld_IX_AtNN 0xFFFF) = .ldIdxMem .ix 0xFFFF ∧ Instr.op (.ld_AtNN_IY 0xFFFF) = .ldMemIdx 0xFFFF .iy := by
  refine ⟨?_, ?_, ?_, ?_, ?_, ?_⟩ <;> rfl

theorem witness_PushAndPop :
    Instr.op .push_AF = .push .af ∧ Instr.op .push_IY = .pushIdx .iy ∧ Instr.op .pop_AF = .pop .af ∧
      Instr.op .pop_IX = .popIdx .ix := by
  refine ⟨?_, ?_, ?_, ?_⟩ <;> rfl

theorem witness_Exchanges :
    Instr.op .ex_DE_HL = .exDEHL ∧ Instr.op .ex_AF_AF = .exAF ∧ Instr.op .exx = .exx ∧ Instr.op .ex_AtSP_HL = .exSPHL ∧
      Instr.op .ex_AtSP_IY = .exSPIdx .iy := by
  refine ⟨?_, ?_, ?_, ?_, ?_⟩ <;> rfl

theorem witness_AluOperations :
    Instr.op .adc_A_B = .alu .adc (.reg .b) ∧ Instr.op (.sub_n 0xFF) = .alu .sub (.imm 0xFF) ∧
      Instr.op .cp_AtHL = .alu .cp .atHL ∧ Instr.op (.or_AtIXd 0x80) = .alu .or (.atIdx .ix 0x80) := by
  refine ⟨?_, ?_, ?_, ?_⟩ <;> rfl

theorem witness_IncrementAndDecrement :
    Instr.op .inc_A = .incLoc (.reg .a) ∧ Instr.op (.dec_AtIYd 0x80) = .decLoc (.atIdx .iy 0x80) := ⟨rfl, rfl⟩

theorem witness_AddAndSubtractWord :
    Instr.op .add_HL_SP = .addHL .sp ∧ Instr.op .add_IX_IX = .addIdx .ix .self ∧ Instr.op .adc_HL_HL = .adcHL .hl ∧
      Instr.op .sbc_HL_DE = .sbcHL .de := by
  refine ⟨?_, ?_, ?_, ?_⟩ <;> rfl

theorem witness_IncrementAndDecrementWord :
    Instr.op .inc_SP = .incPair .sp ∧ Instr.op .dec_BC = .decPair .bc ∧ Instr.op .inc_IX = .incIdx .ix ∧
      Instr.op .dec_IY = .decIdx .iy := by
  refine ⟨?_, ?_, ?_, ?_⟩ <;> rfl

theorem witness_AccumulatorRotates :
    Instr.op .rlca = .rlca ∧ Instr.op .rrca = .rrca ∧ Instr.op .rla = .rla ∧ Instr.op .rra = .rra := by
  refine ⟨?_, ?_, ?_, ?_⟩ <;> rfl

theorem witness_RotatesAndShifts :
    Instr.op .sll_A = .rot .sll (.reg .a) ∧ Instr.op .rl_AtHL = .rot .rl .atHL ∧
      Instr.op (.srl_AtIYd 0xFF) = .rot .srl (.atIdx .iy 0xFF) := by
  refine ⟨?_, ?_, ?_⟩ <;> rfl

theorem witness_DigitRotates : Instr.op .rld = .rld ∧ Instr.op .rrd = .rrd := ⟨rfl, rfl⟩

theorem witness_BitTest :
    Instr.op .bit_7_A = .bitTestReg 7 .a ∧ Instr.op .bit_0_AtHL = .bitTestHL 0 ∧
      Instr.op (.bit_0_AtIXd 0x80 7) = .bitTestIdx 0 .ix 0x80 7 := by
  refine ⟨?_, ?_, ?_⟩ <;> rfl

theorem witness_BitResetAndSet :
    Instr.op .set_7_B = (if true then .setBit 7 (.reg .b) else .resBit 7 (.reg .b)) ∧
      Instr.op (.res_0_AtIYd 0x80) =
        (if false then .setBit 0 (.atIdx .iy 0x80) else .resBit 0 (.atIdx .iy 0x80)) := ⟨rfl, rfl⟩

theorem witness_Jumps :
    Instr.op (.jp_nn 0xFFFF) = .jp 0xFFFF ∧ Instr.op (.jp_M_nn 0) = .jpCond .m 0 ∧ Instr.op .jp_AtHL = .jpHL ∧
      Instr.op .jp_AtIY = .jpIdx .iy := by
  refine ⟨?_, ?_, ?_, ?_⟩ <;> rfl

theorem witness_RelativeJumps :
    Instr.op (.jr_e 0x80) = .jr 0x80 ∧ Instr.op (.jr_NC_e 0x7F) = .jrCond .nc 0x7F ∧
      Instr.op (.djnz_e 0xFE) = .djnz 0xFE := by
  refine ⟨?_, ?_, ?_⟩ <;> rfl

theorem witness_Calls :
    Instr.op (.call_nn 0xFFFF) = .call 0xFFFF ∧ Instr.op (.call_PO_nn 0) = .callCond .po 0 ∧
      Instr.op .rst_38 = .rst 7 := by
  refine ⟨?_, ?_, ?_⟩ <;> rfl

theorem witness_Returns :
    Instr.op .ret = .ret ∧ Instr.op .ret_P = .retCond .p ∧ Instr.op .reti = .reti ∧ Instr.op .retn = .retn := by
  refine ⟨?_, ?_, ?_, ?_⟩ <;> rfl

theorem witness_PortInstructions :
    Instr.op (.in_A_PortN 0xBF) = .inAPort 0xBF ∧ Instr.op .in_C_PortC = .inRegC .c ∧
      Instr.op (.out_PortN_A 0xBE) = .outPortA 0xBE ∧ Instr.op .out_PortC_C = .outCReg .c := by
  refine ⟨?_, ?_, ?_, ?_⟩ <;> rfl

theorem witness_BlockInput :
    Instr.op .ini = .inBlock .inc ∧ Instr.op .ind = .inBlock .dec ∧ Instr.op .inir = .inBlockRep .inc ∧
      Instr.op .indr = .inBlockRep .dec := by
  refine ⟨?_, ?_, ?_, ?_⟩ <;> rfl

theorem witness_BlockOutput :
    Instr.op .outi = .outBlock .inc ∧ Instr.op .outd = .outBlock .dec ∧ Instr.op .otir = .outBlockRep .inc ∧
      Instr.op .otdr = .outBlockRep .dec := by
  refine ⟨?_, ?_, ?_, ?_⟩ <;> rfl

theorem witness_BlockTransfer :
    Instr.op .ldi = .ldBlock .inc ∧ Instr.op .ldd = .ldBlock .dec ∧ Instr.op .ldir = .ldBlockRep .inc ∧
      Instr.op .lddr = .ldBlockRep .dec := by
  refine ⟨?_, ?_, ?_, ?_⟩ <;> rfl

theorem witness_BlockCompare :
    Instr.op .cpi = .cpBlock .inc ∧ Instr.op .cpd = .cpBlock .dec ∧ Instr.op .cpir = .cpBlockRep .inc ∧
      Instr.op .cpdr = .cpBlockRep .dec := by
  refine ⟨?_, ?_, ?_, ?_⟩ <;> rfl

theorem witness_CpuControl :
    Instr.op .nop = .nop ∧ Instr.op .halt = .halt ∧ Instr.op .di = .di ∧ Instr.op .ei = .ei ∧
      Instr.op .im_1 = .im .im1 := by
  refine ⟨?_, ?_, ?_, ?_, ?_⟩ <;> rfl

theorem witness_AccumulatorOperations :
    Instr.op .neg = .neg ∧ Instr.op .cpl = .cpl ∧ Instr.op .scf = .scf ∧ Instr.op .ccf = .ccf ∧
      Instr.op .daa = .daa := by
  refine ⟨?_, ?_, ?_, ?_, ?_⟩ <;> rfl

/-- Both ends of every region, with the control byte of each clause. -/
theorem witness_MemoryReadMap :
    (0x0000#16).toNat < 0x0400 ∧ (0x03FF#16).toNat < 0x0400 ∧
      (0x0400 ≤ (0x0400#16).toNat ∧ (0x3FFF#16).toNat < 0x4000) ∧
      (0x4000 ≤ (0x4000#16).toNat ∧ (0x7FFF#16).toNat < 0x8000) ∧
      (0x8000 ≤ (0x8000#16).toNat ∧ (0xBFFF#16).toNat < 0xC000 ∧ State.reset.mem.ctl.getLsbD 3 = false) ∧
      (0x8000 ≤ (0x8000#16).toNat ∧ (0xBFFF#16).toNat < 0xC000 ∧ (TestRun.withCtl 0x08).mem.ctl.getLsbD 3 = true) ∧
      (0xC000 ≤ (0xC000#16).toNat ∧ 0xC000 ≤ (0xFFFF#16).toNat) := by decide

/-- Both ends of every region, and the four selectors. -/
theorem witness_MemoryWriteEffect :
    ((0x0000#16).toNat < 0x8000 ∧ (0x7FFF#16).toNat < 0x8000) ∧
      (0x8000 ≤ (0x8000#16).toNat ∧ (0xBFFF#16).toNat < 0xC000 ∧ State.reset.mem.ctl.getLsbD 3 = false) ∧
      (0x8000 ≤ (0x8000#16).toNat ∧ (0xBFFF#16).toNat < 0xC000 ∧ (TestRun.withCtl 0x0C).mem.ctl.getLsbD 3 = true) ∧
      (0xC000 ≤ (0xC000#16).toNat ∧ 0xC000 ≤ (0xFFFB#16).toNat) ∧
      (0xC000 ≤ (0xFFFC#16).toNat ∧ 0xC000 ≤ (0xFFFD#16).toNat ∧ 0xC000 ≤ (0xFFFE#16).toNat ∧
        0xC000 ≤ (0xFFFF#16).toNat) := by decide

theorem witness_ReadAfterWrite :
    (State.reset.MemWf ∧ 0xC000 ≤ (0xC000#16).toNat ∧ 0xC000 ≤ (0xE000#16).toNat ∧
        (0xC000#16).toNat % 0x2000 = (0xE000#16).toNat % 0x2000) ∧
      ((TestRun.withCtl 0x08).MemWf ∧ 0x8000 ≤ (0xBFFF#16).toNat ∧ (0xBFFF#16).toNat < 0xC000 ∧
        (TestRun.withCtl 0x08).mem.ctl.getLsbD 3 = true) ∧
      (State.reset.MemWf ∧ (0x7FFF#16).toNat < 0x8000) ∧
      (State.reset.MemWf ∧ 0x8000 ≤ (0x8000#16).toNat ∧ (0x8000#16).toNat < 0xC000 ∧
        State.reset.mem.ctl.getLsbD 3 = false ∧ State.reset.mem.ctl.getLsbD 2 = false) ∧
      ((TestRun.withCtl 0x0C).MemWf ∧ (TestRun.withCtl 0x0C).mem.ctl.getLsbD 2 = true) ∧
      (0xC000 ≤ (0xFFFC#16).toNat) := by
  have h : State.reset.MemWf := by decide
  refine ⟨⟨h, ?_⟩, ⟨h, ?_⟩, ⟨h, ?_⟩, ⟨h, ?_⟩, ⟨h, ?_⟩, ?_⟩ <;> decide

/-- A store at 0xC000 reaches neither 0xC001 nor ROM; a register load stores nothing. -/
theorem witness_MemoryFrame :
    (∃ t, exec .ld_AtBC_A (TestRun.regs fun g => { g with b := 0xC0 }) = .next t) ∧
      Op.storeTargets (Instr.op .ld_AtBC_A) (TestRun.regs fun g => { g with b := 0xC0 }) = [0xC000] ∧
      storeReaches 0xC000 0xC001 = false ∧ storeReaches 0xC000 0x0000 = false ∧ storeReaches 0xC000 0xE000 = true ∧
      storeReaches 0xFFFF 0x8000 = true ∧ storeReaches 0xFFFF 0x7FFF = false ∧
      (∃ t, exec .ld_A_B State.reset = .next t) ∧ Op.storeTargets (Instr.op .ld_A_B) State.reset = [] := by
  refine ⟨⟨_, rfl⟩, ?_, ?_, ?_, ?_, ?_, ?_, ⟨_, rfl⟩, ?_⟩ <;> rfl

theorem witness_StepRunsDecoded :
    (State.reset.Running ∧ State.reset.interrupted = false ∧ State.reset.halted = false ∧
        decodeAdmitted State.reset.params
          [State.reset.read 0, State.reset.read 1, State.reset.read 2, State.reset.read 3] = .instr .nop [0, 0, 0]) ∧
      ((TestRun.irq .im1).Running ∧ (TestRun.irq .im1).interrupted = true ∧ (TestRun.irq .im1).im = .im1 ∧
        decodeAdmitted (TestRun.irq .im1).params (TestRun.irq .im1).polled.acceptIM1.fetchBytes =
          .instr .nop [0, 0, 0]) := by
  refine ⟨⟨⟨rfl, rfl⟩, rfl, rfl, rfl⟩, ⟨rfl, rfl⟩, rfl, rfl, rfl⟩

theorem witness_HaltedStep :
    ({ State.reset with halted := true }).Running ∧ ({ State.reset with halted := true }).halted = true ∧
      ({ State.reset with halted := true }).interrupted = false := by
  refine ⟨⟨rfl, rfl⟩, rfl, rfl⟩

/-- The four ways into the three clauses. -/
theorem witness_InterruptAcceptance :
    (State.reset.Running ∧ State.reset.iff1 = false ∧ State.reset.polled.vdp.irq = false) ∧
      ({ TestRun.irq .im1 with eiShadow := true }).eiShadow = true ∧
      ((TestRun.irq .im1).Running ∧ (TestRun.irq .im1).iff1 = true ∧ (TestRun.irq .im1).eiShadow = false ∧
        (TestRun.irq .im1).polled.vdp.irq = true ∧ (TestRun.irq .im1).im = .im1) ∧
      ((TestRun.irq .im2).Running ∧ (TestRun.irq .im2).iff1 = true ∧ (TestRun.irq .im2).eiShadow = false ∧
        (TestRun.irq .im2).polled.vdp.irq = true ∧ (TestRun.irq .im2).im ≠ .im1) := by
  refine ⟨⟨⟨rfl, rfl⟩, rfl, rfl⟩, rfl, ⟨⟨rfl, rfl⟩, rfl, rfl, rfl, rfl⟩, ⟨rfl, rfl⟩, rfl, rfl, rfl, by decide⟩

theorem witness_UnknownOpcodeFault :
    let s := State.reset.placeBytes 0 [0xED, 0x00]
    s.Running ∧ s.halted = false ∧ s.interrupted = false ∧
      decodeAdmitted s.params s.fetchBytes = .unknown [0xED, 0x00] := by
  refine ⟨⟨rfl, rfl⟩, rfl, rfl, rfl⟩

theorem witness_TerminalStates :
    ({ State.reset with fault := some (.unknownOpcode 0 [] 0) }).fault ≠ none ∧
      (State.reset.fault = none ∧ ({ State.reset with cart := { rom := [], numBanks := 0 } }).cart.numBanks = 0) ∧
      64 < ({ State.reset with cart := { rom := [], numBanks := 65 } }).cart.numBanks := by decide

/-- The first reset, and a reset of a machine that has run. -/
theorem witness_ResetValues :
    (State.reset = State.reset ∨ ∃ u : State, State.reset = u.resetAgain) ∧
      ((TestRun.irq .im1).resetAgain = State.reset ∨
        ∃ u : State, (TestRun.irq .im1).resetAgain = u.resetAgain) := ⟨.inl rfl, .inr ⟨_, rfl⟩⟩

theorem witness_ResetMeetsInvariants :
    Mem.wf (256 * 16384) (TestRun.irq .im1).cart.rom ∧ 0 < (TestRun.irq .im1).params.hsyncTime := by decide

/-- The ports of each clause, with the ends of the counters' ranges. -/
theorem witness_PortReads :
    (0x40#8 &&& 0xC1 = 0x40 ∧ 0x7E#8 &&& 0xC1 = 0x40) ∧ (0x41#8 &&& 0xC1 = 0x41 ∧ 0x7F#8 &&& 0xC1 = 0x41) ∧
      (0x3F#8 ≠ 0xBE ∧ 0x3F#8 ≠ 0xBF ∧ 0x3F#8 &&& 0xC1 ≠ 0x40 ∧ 0x3F#8 &&& 0xC1 ≠ 0x41) ∧
      (0x80#8 ≠ 0xBE ∧ 0x80#8 ≠ 0xBF ∧ 0x80#8 &&& 0xC1 ≠ 0x40 ∧ 0x80#8 &&& 0xC1 ≠ 0x41) := by decide

/-- The latch and the second byte of each clause; 0x7F, 0x80, 0x8F and 0x90 are where the clauses meet. -/
theorem witness_PortWrites :
    State.reset.vdp.latchPending = false ∧
      ({ State.reset with vdp := { State.reset.vdp with latchPending := true } }).vdp.latchPending = true ∧
      ((0x80#8).toNat / 16 = 8 ∧ (0x8F#8).toNat / 16 = 8) ∧ ((0x7F#8).toNat / 16 ≠ 8 ∧ (0x90#8).toNat / 16 ≠ 8) ∧
      (0x7F#8 ≠ 0xBE ∧ 0x7F#8 ≠ 0xBF) := by
  refine ⟨rfl, rfl, ?_⟩
  decide

theorem witness_VdpRegisterWrite :
    0 < State.reset.vdp.hscrollLine.length ∧ 191 < State.reset.vdp.hscrollLine.length ∧
      191 < State.reset.vdp.vscrollLine.length ∧ (8 : BitVec 4) ≠ 9 := by
  have h1 : State.reset.vdp.hscrollLine.length = 192 := List.length_replicate
  have h2 : State.reset.vdp.vscrollLine.length = 192 := List.length_replicate
  rw [h1, h2]
  decide

/-- The first and the last clock of the visible part. -/
theorem witness_LineInterruptPeriod :
    let v := Vdp.reset Params.standard
    0 < Params.standard.hsyncTime ∧ Params.standard.vframeTime ≤ Params.standard.vsyncTime ∧
      v.lineCounter = v.lineReload ∧ v.lineTarget = v.lastVsync + Params.standard.hsyncTime ∧ v.hintPending = false ∧
      (v.lastVsync ≤ 0 ∧ 0 < v.lastVsync + Params.standard.vframeTime) ∧
      (v.lastVsync ≤ 47802 ∧ 47802 < v.lastVsync + Params.standard.vframeTime) := by decide

/-- The first and the last clock of each of the three parts of a frame. -/
theorem witness_FrameInterrupt :
    let p := Params.standard
    let v := Vdp.reset p
    0 < p.hsyncTime ∧ 0 < p.vframeTime ∧ v.lastVsync ≤ 0 ∧
      (0 - v.lastVsync < p.vframeTime ∧ 47802 - v.lastVsync < p.vframeTime ∧ 47802 - v.lastVsync < p.vsyncTime) ∧
      (p.vframeTime ≤ 47803 - v.lastVsync ∧ 65231 - v.lastVsync < p.vsyncTime) ∧
      p.vsyncTime ≤ 65232 - v.lastVsync := by decide

theorem witness_EncodeOfDecode : decode [0xDD, 0xCB, 0x01, 0x47, 0xFF] = .instr (.bit_0_AtIXd 0x01 7) [0xFF] := by rfl

/-- One byte of each clause; DD CB 00 07 is the neighbour of RLC (IX+0). -/
theorem witness_UnadmittedBytes :
    ((0x70#8).toNat / 64 = 1 ∧ (0x70#8).toNat % 8 = 0 ∧ (0x70#8).toNat / 8 % 8 = 6) ∧
      (decode [0xED, 0x70] = .unknown [0xED, 0x70]) ∧ (decode [0xFD, 0x76] = .unknown [0xFD, 0x76]) ∧
      ((0x07#8).toNat % 8 ≠ 6 ∧ (0x07#8).toNat / 64 ≠ 1) := by
  refine ⟨by decide, rfl, rfl, by decide⟩

theorem witness_StepKeepsMemoryForm : (∃ t, step State.reset = .next t) ∧ State.reset.MemWf := ⟨⟨_, rfl⟩, by decide⟩

theorem witness_StepKeepsVideoTiming :
    (∃ t, step State.reset = .next t) ∧ 0 < State.reset.params.hsyncTime ∧ State.reset.TimingWf ∧
      State.reset.ScrollWf := ⟨⟨_, rfl⟩, by decide, by decide, ⟨rfl, rfl⟩⟩

theorem witness_RefreshAndPcAdvance :
    (∃ t, exec .nop State.reset = .next t) ∧ Instr.op .nop ≠ .ldRA ∧ Op.branches (Instr.op .nop) = false :=
  ⟨⟨_, rfl⟩, by decide, rfl⟩

theorem witness_ControlRegisterWriters :
    (∃ t, exec .nop State.reset = .next t) ∧ Instr.op .nop ≠ .ldIA ∧ (∀ m, Instr.op .nop ≠ .im m) ∧
      Instr.op .nop ≠ .halt ∧ Instr.op .nop ≠ .di ∧ Instr.op .nop ≠ .ei ∧ Instr.op .nop ≠ .reti ∧
      Instr.op .nop ≠ .retn := by
  refine ⟨⟨_, rfl⟩, by decide, fun m h => Op.noConfusion h, ?_⟩
  decide

theorem witness_VdpOnlyThroughPorts :
    (∃ t, exec (.ld_AtNN_A 0xC000) State.reset = .next t) ∧
      Op.accessesPort (Instr.op (.ld_AtNN_A 0xC000)) = false := ⟨⟨_, rfl⟩, rfl⟩

theorem witness_StepMonotone :
    (∃ t, step State.reset = .next t) ∧
      (∃ t, step { State.reset with fault := some (.unknownOpcode 0 [] 0) } = .next t) := ⟨⟨_, rfl⟩, ⟨_, rfl⟩⟩
end

section
/-! The jumps and conditions of 46_control.md (R166, R371 to R374): the encoding of an instruction is that of its
operation, a jump's execute phase is the fetched state with PC replaced, and each jump operation is one use of that. -/

namespace Sys2Proof.Machine

/-- The words of an instruction, by its operation: the companion of `exec_of_op`. -/
theorem encode_of_op {i : Instr} {o : Op} (h : i.op = o) : encode i = o.encode := congrArg Op.encode h

/-! ### The absolute jumps by operation -/

/-- A jump after fetch changes PC alone, beside R and the clock, which every instruction advances. -/
theorem State.fetched_jumpTo_tick (s : State) (len m1 cyc : Nat) (w : Word) :
    ((s.fetched len m1).jumpTo w).tick cyc = { s.advanced len m1 cyc with pc := w } := rfl

theorem jp_eq (nn : Word) (s : State) : jp nn s = .next { s.advanced 3 1 10 with pc := nn } := by
  rw [jp, runFixed_eq, State.fetched_jumpTo_tick]

/-- Taken or not, the state is the advanced one, so only PC depends on the condition. -/
theorem jpCond_eq (k : Cond) (nn : Word) (s : State) :
    jpCond k nn s =
      .next { s.advanced 3 1 10 with pc := if condHolds k s.regs.f then nn else s.pc + 3 } := by
  rw [jpCond, runEither_whenCond, State.fetched_jumpTo_tick]
  cases condHolds k s.regs.f
  case false => rfl
  case true => rfl

theorem jpHL_eq (s : State) : jpHL s = .next { s.advanced 1 1 4 with pc := s.regs.hl } := by
  rw [jpHL, runFixed_eq, State.fetched_jumpTo_tick]
  rfl

theorem jpIdx_eq (x : Idx) (s : State) :
    jpIdx x s = .next { s.advanced 2 2 8 with pc := s.regs.getIdx x } := by
  rw [jpIdx, runFixed_eq, State.fetched_jumpTo_tick]
  rfl

/-! ### The conditions -/

/-- R166: the flag that each condition reads, by its bit of F (R36), and its sense. -/
theorem condHolds_flagBits (f : Byte) :
    condHolds .nz f = !f.getLsbD 6 ∧ condHolds .z f = f.getLsbD 6 ∧
    condHolds .nc f = !f.getLsbD 0 ∧ condHolds .c f = f.getLsbD 0 ∧
    condHolds .po f = !f.getLsbD 2 ∧ condHolds .pe f = f.getLsbD 2 ∧
    condHolds .p f = !f.getLsbD 7 ∧ condHolds .m f = f.getLsbD 7 :=
  ⟨rfl, rfl, rfl, rfl, rfl, rfl, rfl, rfl⟩

/-- R166: the codes count the conditions in the table's order. -/
theorem condCode_values :
    Cond.nz.code = 0 ∧ Cond.z.code = 1 ∧ Cond.nc.code = 2 ∧ Cond.c.code = 3 ∧
    Cond.po.code = 4 ∧ Cond.pe.code = 5 ∧ Cond.p.code = 6 ∧ Cond.m.code = 7 :=
  ⟨rfl, rfl, rfl, rfl, rfl, rfl, rfl, rfl⟩

/-- Settles O19: each jump is read off its operation (`encode_of_op`, `exec_of_op`), whose next state its own lemma gives. -/
theorem jumps : Obligations.Jumps := by
  refine ⟨fun i s => ⟨fun nn h => ?jp, fun k nn h => ?jpCond, fun h => ?jpHL, fun x h => ?jpIdx⟩,
    condHolds_flagBits, condCode_values⟩
  case jp => exact ⟨encode_of_op h, (exec_of_op h s).trans (jp_eq nn s)⟩
  case jpCond => exact ⟨encode_of_op h, (exec_of_op h s).trans (jpCond_eq k nn s)⟩
  case jpHL => exact ⟨encode_of_op h, (exec_of_op h s).trans (jpHL_eq s)⟩
  case jpIdx => exact ⟨encode_of_op h, (exec_of_op h s).trans (jpIdx_eq x s)⟩

end Sys2Proof.Machine
end

section
/-! The 8-bit loads and stores of 40_load8.md (R200 to R213): a load's execute phase is the advanced state with its registers
replaced, a store's is the advanced state with its memory replaced, and each operation is one use of that. -/

namespace Sys2Proof.Machine

/-! ### What fetch leaves for the effect to see -/

/-- Fetch moves PC and R alone, so memory reads after it are those before it. -/
@[simp] theorem State.fetched_read (s : State) (len m1 : Nat) (a : Word) : (s.fetched len m1).read a = s.read a := rfl

@[simp] theorem State.fetched_ea (s : State) (len m1 : Nat) (x : Idx) (d : Byte) :
    (s.fetched len m1).ea x d = s.regs.getIdx x + sext8 d := rfl

/-- A change of registers after fetch: nothing else changes, beside PC, R and the clock. -/
theorem State.fetched_mapRegs_tick (s : State) (len m1 cyc : Nat) (f : Regs → Regs) :
    ((s.fetched len m1).mapRegs f).tick cyc = { s.advanced len m1 cyc with regs := f s.regs } := rfl

/-- One `MemWrite` after fetch: nothing else changes, beside PC, R and the clock. -/
theorem State.fetched_write_tick (s : State) (len m1 cyc : Nat) (a : Word) (v : Byte) :
    ((s.fetched len m1).write a v).tick cyc = { s.advanced len m1 cyc with mem := s.mem.write a v } := rfl

theorem Regs.set_a (g : Regs) (v : Byte) : g.set .a v = { g with a := v } := rfl

/-! ### The loads of a register by operation -/

theorem ldRegReg_eq (r r' : R8) (s : State) :
    ldRegReg r r' s = .next { s.advanced 1 1 4 with regs := s.regs.set r (s.regs.get r') } := by
  rw [ldRegReg, runFixed_eq, State.fetched_mapRegs_tick]

theorem ldRegImm_eq (r : R8) (n : Byte) (s : State) :
    ldRegImm r n s = .next { s.advanced 2 1 7 with regs := s.regs.set r n } := by
  rw [ldRegImm, runFixed_eq, State.fetched_mapRegs_tick]

theorem ldRegHL_eq (r : R8) (s : State) :
    ldRegHL r s = .next { s.advanced 1 1 7 with regs := s.regs.set r (s.read s.regs.hl) } := by
  rw [ldRegHL, runFixed_eq, State.fetched_mapRegs_tick, State.fetched_read]

theorem ldRegIdx_eq (r : R8) (x : Idx) (d : Byte) (s : State) :
    ldRegIdx r x d s =
      .next { s.advanced 3 2 19 with regs := s.regs.set r (s.read (s.regs.getIdx x + sext8 d)) } := by
  rw [ldRegIdx, runFixed_eq, State.fetched_mapRegs_tick, State.fetched_ea, State.fetched_read]

theorem ldABC_eq (s : State) :
    ldABC s = .next { s.advanced 1 1 7 with regs := { s.regs with a := s.read s.regs.bc } } := by
  rw [ldABC, runFixed_eq, State.fetched_mapRegs_tick, State.fetched_read, Regs.set_a]

theorem ldADE_eq (s : State) :
    ldADE s = .next { s.advanced 1 1 7 with regs := { s.regs with a := s.read s.regs.de } } := by
  rw [ldADE, runFixed_eq, State.fetched_mapRegs_tick, State.fetched_read, Regs.set_a]

theorem ldAMem_eq (nn : Word) (s : State) :
    ldAMem nn s = .next { s.advanced 3 1 13 with regs := { s.regs with a := s.read nn } } := by
  rw [ldAMem, runFixed_eq, State.fetched_mapRegs_tick, State.fetched_read, Regs.set_a]

/-! ### The stores of a byte by operation -/

theorem ldHLReg_eq (r : R8) (s : State) :
    ldHLReg r s = .next { s.advanced 1 1 7 with mem := s.mem.write s.regs.hl (s.regs.get r) } := by
  rw [ldHLReg, runFixed_eq, State.fetched_write_tick, State.fetched_regs]

theorem ldHLImm_eq (n : Byte) (s : State) :
    ldHLImm n s = .next { s.advanced 2 1 10 with mem := s.mem.write s.regs.hl n } := by
  rw [ldHLImm, runFixed_eq, State.fetched_write_tick, State.fetched_regs]

theorem ldIdxReg_eq (x : Idx) (d : Byte) (r : R8) (s : State) :
    ldIdxReg x d r s =
      .next { s.advanced 3 2 19 with mem := s.mem.write (s.regs.getIdx x + sext8 d) (s.regs.get r) } := by
  rw [ldIdxReg, runFixed_eq, State.fetched_write_tick, State.fetched_ea, State.fetched_regs]

theorem ldIdxNum_eq (x : Idx) (d n : Byte) (s : State) :
    ldIdxNum x d n s =
      .next { s.advanced 4 2 19 with mem := s.mem.write (s.regs.getIdx x + sext8 d) n } := by
  rw [ldIdxNum, runFixed_eq, State.fetched_write_tick, State.fetched_ea]

theorem ldBCA_eq (s : State) :
    ldBCA s = .next { s.advanced 1 1 7 with mem := s.mem.write s.regs.bc s.regs.a } := by
  rw [ldBCA, runFixed_eq, State.fetched_write_tick, State.fetched_regs]

theorem ldDEA_eq (s : State) :
    ldDEA s = .next { s.advanced 1 1 7 with mem := s.mem.write s.regs.de s.regs.a } := by
  rw [ldDEA, runFixed_eq, State.fetched_write_tick, State.fetched_regs]

theorem ldMemA_eq (nn : Word) (s : State) :
    ldMemA nn s = .next { s.advanced 3 1 13 with mem := s.mem.write nn s.regs.a } := by
  rw [ldMemA, runFixed_eq, State.fetched_write_tick, State.fetched_regs]

/-! ### The statements -/

/-- Settles O1: each load is read off its operation (`encode_of_op`, `exec_of_op`), whose next state its own lemma gives. -/
theorem loadRegister : Obligations.LoadRegister := by
  refine fun i s => ⟨fun r r' h => ?reg, fun r n h => ?imm, fun r h => ?atHL, fun r x d h => ?atIdx,
    fun h => ?atBC, fun h => ?atDE, fun nn h => ?atNN⟩
  case reg => exact ⟨encode_of_op h, (exec_of_op h s).trans (ldRegReg_eq r r' s)⟩
  case imm => exact ⟨encode_of_op h, (exec_of_op h s).trans (ldRegImm_eq r n s)⟩
  case atHL => exact ⟨encode_of_op h, (exec_of_op h s).trans (ldRegHL_eq r s)⟩
  case atIdx => exact ⟨encode_of_op h, (exec_of_op h s).trans (ldRegIdx_eq r x d s)⟩
  case atBC => exact ⟨encode_of_op h, (exec_of_op h s).trans (ldABC_eq s)⟩
  case atDE => exact ⟨encode_of_op h, (exec_of_op h s).trans (ldADE_eq s)⟩
  case atNN => exact ⟨encode_of_op h, (exec_of_op h s).trans (ldAMem_eq nn s)⟩

/-- Settles O2: each store is read off its operation as each load is, and its lemma gives the one `MemWrite`. -/
theorem storeByte : Obligations.StoreByte := by
  refine fun i s => ⟨fun r h => ?regAtHL, fun n h => ?immAtHL, fun x d r h => ?regAtIdx,
    fun x d n h => ?immAtIdx, fun h => ?atBC, fun h => ?atDE, fun nn h => ?atNN⟩
  case regAtHL => exact ⟨encode_of_op h, (exec_of_op h s).trans (ldHLReg_eq r s)⟩
  case immAtHL => exact ⟨encode_of_op h, (exec_of_op h s).trans (ldHLImm_eq n s)⟩
  case regAtIdx => exact ⟨encode_of_op h, (exec_of_op h s).trans (ldIdxReg_eq x d r s)⟩
  case immAtIdx => exact ⟨encode_of_op h, (exec_of_op h s).trans (ldIdxNum_eq x d n s)⟩
  case atBC => exact ⟨encode_of_op h, (exec_of_op h s).trans (ldBCA_eq s)⟩
  case atDE => exact ⟨encode_of_op h, (exec_of_op h s).trans (ldDEA_eq s)⟩
  case atNN => exact ⟨encode_of_op h, (exec_of_op h s).trans (ldMemA_eq nn s)⟩

end Sys2Proof.Machine
end

section
/-! The 16-bit loads, the stack and the exchanges of 41_load16.md (R230 to R249): after fetch an operation changes registers
(`State.fetched_mapRegs_tick`), stores a word, pushes, pops, or stores a word and changes registers; each of these has one
lemma for its next state, and each operation is one use of its lemma. -/

namespace Sys2Proof.Machine

/-! ### What fetch leaves for the effect to see -/

/-- R105: a word is read from memory as it was before fetch. -/
@[simp] theorem State.fetched_read16 (s : State) (len m1 : Nat) (a : Word) :
    (s.fetched len m1).read16 a = join (s.read (a + 1)) (s.read a) := rfl

/-- R230: the word on top of the stack is the one before fetch. -/
@[simp] theorem State.fetched_popValue (s : State) (len m1 : Nat) :
    (s.fetched len m1).popValue = join (s.read (s.regs.sp + 1)) (s.read s.regs.sp) := rfl

/-- One word stored after fetch, the low byte first (R108): nothing else changes, beside PC, R and the clock. -/
theorem State.fetched_write16_tick (s : State) (len m1 cyc : Nat) (a w : Word) :
    ((s.fetched len m1).write16 a w).tick cyc =
      { s.advanced len m1 cyc with mem := (s.mem.write a (lo w)).write (a + 1) (hi w) } := rfl

/-- One word stored and the registers changed after fetch. -/
theorem State.fetched_write16_mapRegs_tick (s : State) (len m1 cyc : Nat) (a w : Word) (f : Regs → Regs) :
    (((s.fetched len m1).write16 a w).mapRegs f).tick cyc =
      { s.advanced len m1 cyc with
        regs := f s.regs, mem := (s.mem.write a (lo w)).write (a + 1) (hi w) } := rfl

/-- One word pushed after fetch, the high byte first (R230). -/
theorem State.fetched_push16_tick (s : State) (len m1 cyc : Nat) (w : Word) :
    ((s.fetched len m1).push16 w).tick cyc =
      { s.advanced len m1 cyc with
        regs := { s.regs with sp := s.regs.sp - 2 }
        mem := (s.mem.write (s.regs.sp - 1) (hi w)).write (s.regs.sp - 2) (lo w) } := rfl

/-- One word popped after fetch, its destination written once SP has moved (R230). -/
theorem State.fetched_popped_mapRegs_tick (s : State) (len m1 cyc : Nat) (f : Regs → Regs) :
    ((s.fetched len m1).popped.mapRegs f).tick cyc =
      { s.advanced len m1 cyc with regs := f { s.regs with sp := s.regs.sp + 2 } } := rfl

/-! ### The 16-bit loads by operation -/

theorem ldPairImm_eq (p : Pair) (nn : Word) (s : State) :
    ldPairImm p nn s = .next { s.advanced 3 1 10 with regs := s.regs.setPair p nn } := by
  rw [ldPairImm, runFixed_eq, State.fetched_mapRegs_tick]

theorem ldIdxImm_eq (x : Idx) (nn : Word) (s : State) :
    ldIdxImm x nn s = .next { s.advanced 4 2 14 with regs := s.regs.setIdx x nn } := by
  rw [ldIdxImm, runFixed_eq, State.fetched_mapRegs_tick]

theorem ldSPHL_eq (s : State) :
    ldSPHL s = .next { s.advanced 1 1 6 with regs := { s.regs with sp := s.regs.hl } } := by
  rw [ldSPHL, runFixed_eq, State.fetched_mapRegs_tick]

theorem ldSPIdx_eq (x : Idx) (s : State) :
    ldSPIdx x s = .next { s.advanced 2 2 10 with regs := { s.regs with sp := s.regs.getIdx x } } := by
  rw [ldSPIdx, runFixed_eq, State.fetched_mapRegs_tick]

theorem ldHLMem_eq (nn : Word) (s : State) :
    ldHLMem nn s =
      .next { s.advanced 3 1 16 with regs := s.regs.setHL (join (s.read (nn + 1)) (s.read nn)) } := by
  rw [ldHLMem, runFixed_eq, State.fetched_mapRegs_tick, State.fetched_read16]

theorem ldPairMem_eq (p : Pair) (nn : Word) (s : State) :
    ldPairMem p nn s =
      .next { s.advanced 4 2 20 with regs := s.regs.setPair p (join (s.read (nn + 1)) (s.read nn)) } := by
  rw [ldPairMem, runFixed_eq, State.fetched_mapRegs_tick, State.fetched_read16]

theorem ldIdxMem_eq (x : Idx) (nn : Word) (s : State) :
    ldIdxMem x nn s =
      .next { s.advanced 4 2 20 with regs := s.regs.setIdx x (join (s.read (nn + 1)) (s.read nn)) } := by
  rw [ldIdxMem, runFixed_eq, State.fetched_mapRegs_tick, State.fetched_read16]

/-! ### The stores of a word by operation -/

theorem ldMemHL_eq (nn : Word) (s : State) :
    ldMemHL nn s =
      .next { s.advanced 3 1 16 with
        mem := (s.mem.write nn (lo s.regs.hl)).write (nn + 1) (hi s.regs.hl) } := by
  rw [ldMemHL, runFixed_eq, State.fetched_write16_tick, State.fetched_regs]

theorem ldMemPair_eq (nn : Word) (p : Pair) (s : State) :
    ldMemPair nn p s =
      .next { s.advanced 4 2 20 with
        mem := (s.mem.write nn (lo (s.regs.getPair p))).write (nn + 1) (hi (s.regs.getPair p)) } := by
  rw [ldMemPair, runFixed_eq, State.fetched_write16_tick, State.fetched_regs]

theorem ldMemIdx_eq (nn : Word) (x : Idx) (s : State) :
    ldMemIdx nn x s =
      .next { s.advanced 4 2 20 with
        mem := (s.mem.write nn (lo (s.regs.getIdx x))).write (nn + 1) (hi (s.regs.getIdx x)) } := by
  rw [ldMemIdx, runFixed_eq, State.fetched_write16_tick, State.fetched_regs]

/-! ### The stack by operation -/

theorem push_eq (p : Pair2) (s : State) :
    push p s =
      .next { s.advanced 1 1 11 with
        regs := { s.regs with sp := s.regs.sp - 2 }
        mem := (s.mem.write (s.regs.sp - 1) (hi (s.regs.getPair2 p))).write (s.regs.sp - 2)
          (lo (s.regs.getPair2 p)) } := by
  rw [push, runFixed_eq, State.fetched_push16_tick, State.fetched_regs]

theorem pushIdx_eq (x : Idx) (s : State) :
    pushIdx x s =
      .next { s.advanced 2 2 15 with
        regs := { s.regs with sp := s.regs.sp - 2 }
        mem := (s.mem.write (s.regs.sp - 1) (hi (s.regs.getIdx x))).write (s.regs.sp - 2)
          (lo (s.regs.getIdx x)) } := by
  rw [pushIdx, runFixed_eq, State.fetched_push16_tick, State.fetched_regs]

theorem pop_eq (p : Pair2) (s : State) :
    pop p s =
      .next { s.advanced 1 1 10 with
        regs := { s.regs with sp := s.regs.sp + 2 }.setPair2 p
          (join (s.read (s.regs.sp + 1)) (s.read s.regs.sp)) } := by
  rw [pop, runFixed_eq, State.fetched_popped_mapRegs_tick, State.fetched_popValue]

theorem popIdx_eq (x : Idx) (s : State) :
    popIdx x s =
      .next { s.advanced 2 2 14 with
        regs := { s.regs with sp := s.regs.sp + 2 }.setIdx x
          (join (s.read (s.regs.sp + 1)) (s.read s.regs.sp)) } := by
  rw [popIdx, runFixed_eq, State.fetched_popped_mapRegs_tick, State.fetched_popValue]

/-! ### The exchanges of registers -/

/-- R245: through the words DE and HL, whose halves are the four bytes again. -/
theorem Regs.exDEHL_eq (g : Regs) : g.exDEHL = { g with d := g.h, e := g.l, h := g.d, l := g.e } := by
  simp only [Regs.exDEHL, Regs.setDE, Regs.setHL, Regs.de, Regs.hl, hi_join, lo_join]

theorem Regs.exAF_eq (g : Regs) :
    g.exAF = { g with a := hi g.afShadow, f := lo g.afShadow, afShadow := join g.a g.f } := rfl

theorem Regs.exx_eq (g : Regs) :
    g.exx = { g with
      b := hi g.bcShadow, c := lo g.bcShadow, bcShadow := join g.b g.c
      d := hi g.deShadow, e := lo g.deShadow, deShadow := join g.d g.e
      h := hi g.hlShadow, l := lo g.hlShadow, hlShadow := join g.h g.l } := rfl

/-! ### The exchanges by operation -/

theorem exDEHL_eq (s : State) :
    exDEHL s =
      .next { s.advanced 1 1 4 with
        regs := { s.regs with d := s.regs.h, e := s.regs.l, h := s.regs.d, l := s.regs.e } } := by
  rw [exDEHL, runFixed_eq, State.fetched_mapRegs_tick, Regs.exDEHL_eq]

theorem exAF_eq (s : State) :
    exAF s =
      .next { s.advanced 1 1 4 with
        regs := { s.regs with
          a := hi s.regs.afShadow, f := lo s.regs.afShadow, afShadow := join s.regs.a s.regs.f } } := by
  rw [exAF, runFixed_eq, State.fetched_mapRegs_tick, Regs.exAF_eq]

theorem exx_eq (s : State) :
    exx s =
      .next { s.advanced 1 1 4 with
        regs := { s.regs with
          b := hi s.regs.bcShadow, c := lo s.regs.bcShadow, bcShadow := join s.regs.b s.regs.c
          d := hi s.regs.deShadow, e := lo s.regs.deShadow, deShadow := join s.regs.d s.regs.e
          h := hi s.regs.hlShadow, l := lo s.regs.hlShadow, hlShadow := join s.regs.h s.regs.l } } := by
  rw [exx, runFixed_eq, State.fetched_mapRegs_tick, Regs.exx_eq]

/-- The word that the register takes is read before the store, so it is that of the old memory. -/
theorem exSPHL_eq (s : State) :
    exSPHL s =
      .next { s.advanced 1 1 19 with
        regs := s.regs.setHL (join (s.read (s.regs.sp + 1)) (s.read s.regs.sp))
        mem := (s.mem.write s.regs.sp (lo s.regs.hl)).write (s.regs.sp + 1) (hi s.regs.hl) } := by
  rw [exSPHL, runFixed_eq, State.fetched_write16_mapRegs_tick, State.fetched_read16, State.fetched_regs]

theorem exSPIdx_eq (x : Idx) (s : State) :
    exSPIdx x s =
      .next { s.advanced 2 2 23 with
        regs := s.regs.setIdx x (join (s.read (s.regs.sp + 1)) (s.read s.regs.sp))
        mem := (s.mem.write s.regs.sp (lo (s.regs.getIdx x))).write (s.regs.sp + 1)
          (hi (s.regs.getIdx x)) } := by
  rw [exSPIdx, runFixed_eq, State.fetched_write16_mapRegs_tick, State.fetched_read16, State.fetched_regs]

/-! ### The statements -/

/-- Settles O4: each load is read off its operation (`encode_of_op`, `exec_of_op`), whose next state its own lemma gives. -/
theorem loadWord : Obligations.LoadWord := by
  refine fun i s => ⟨fun p nn h => ?pair, fun x nn h => ?idx, fun h => ?spHL, fun x h => ?spIdx⟩
  case pair => exact ⟨encode_of_op h, (exec_of_op h s).trans (ldPairImm_eq p nn s)⟩
  case idx => exact ⟨encode_of_op h, (exec_of_op h s).trans (ldIdxImm_eq x nn s)⟩
  case spHL => exact ⟨encode_of_op h, (exec_of_op h s).trans (ldSPHL_eq s)⟩
  case spIdx => exact ⟨encode_of_op h, (exec_of_op h s).trans (ldSPIdx_eq x s)⟩

/-- Settles O5: the loads read the word of `State.fetched_read16`, the stores write that of `State.fetched_write16_tick`. -/
theorem loadAndStoreWordAtAddress : Obligations.LoadAndStoreWordAtAddress := by
  refine fun i s nn => ⟨fun h => ?loadHL, fun h => ?storeHL, fun p h => ?loadPair, fun p h => ?storePair,
    fun x h => ?loadIdx, fun x h => ?storeIdx⟩
  case loadHL => exact ⟨encode_of_op h, (exec_of_op h s).trans (ldHLMem_eq nn s)⟩
  case storeHL => exact ⟨encode_of_op h, (exec_of_op h s).trans (ldMemHL_eq nn s)⟩
  case loadPair => exact ⟨encode_of_op h, (exec_of_op h s).trans (ldPairMem_eq p nn s)⟩
  case storePair => exact ⟨encode_of_op h, (exec_of_op h s).trans (ldMemPair_eq nn p s)⟩
  case loadIdx => exact ⟨encode_of_op h, (exec_of_op h s).trans (ldIdxMem_eq x nn s)⟩
  case storeIdx => exact ⟨encode_of_op h, (exec_of_op h s).trans (ldMemIdx_eq nn x s)⟩

/-- Settles O6: a PUSH is one use of `State.fetched_push16_tick`, a POP one of `State.fetched_popped_mapRegs_tick`. -/
theorem pushAndPop : Obligations.PushAndPop := by
  refine fun i s => ⟨fun p h => ?push, fun x h => ?pushIdx, fun p h => ?pop, fun x h => ?popIdx⟩
  case push => exact ⟨encode_of_op h, (exec_of_op h s).trans (push_eq p s)⟩
  case pushIdx => exact ⟨encode_of_op h, (exec_of_op h s).trans (pushIdx_eq x s)⟩
  case pop => exact ⟨encode_of_op h, (exec_of_op h s).trans (pop_eq p s)⟩
  case popIdx => exact ⟨encode_of_op h, (exec_of_op h s).trans (popIdx_eq x s)⟩

/-- Settles O7: the register exchanges field by field (`Regs.exDEHL_eq`, `Regs.exAF_eq`, `Regs.exx_eq`), and the exchanges
with the stack by `State.fetched_write16_mapRegs_tick`. -/
theorem exchanges : Obligations.Exchanges := by
  refine fun i s => ⟨fun h => ?deHL, fun h => ?af, fun h => ?exx, fun h => ?spHL, fun x h => ?spIdx⟩
  case deHL => exact ⟨encode_of_op h, (exec_of_op h s).trans (exDEHL_eq s)⟩
  case af => exact ⟨encode_of_op h, (exec_of_op h s).trans (exAF_eq s)⟩
  case exx => exact ⟨encode_of_op h, (exec_of_op h s).trans (exx_eq s)⟩
  case spHL => exact ⟨encode_of_op h, (exec_of_op h s).trans (exSPHL_eq s)⟩
  case spIdx => exact ⟨encode_of_op h, (exec_of_op h s).trans (exSPIdx_eq x s)⟩

end Sys2Proof.Machine
end

section
/-! 8-bit arithmetic and logic (42_alu8.md R265 to R279): after fetch an ALU operation reads its operand and replaces A and
F, and INC and DEC read their operand, store it again and replace F. Each of these two shapes has one lemma for its next
state, and each operation is one use of it. -/

namespace Sys2Proof.Machine

/-! ### What fetch leaves for the effect to see -/

/-- R265: fetch moves PC and R alone, so the source operand is the one before it. -/
@[simp] theorem State.fetched_readSrc (s : State) (len m1 : Nat) (src : Src8) :
    (s.fetched len m1).readSrc src = s.readSrc src := by
  cases src <;> rfl

/-- R163: likewise an operand m. -/
@[simp] theorem State.fetched_readLoc (s : State) (len m1 : Nat) (m : Loc8) :
    (s.fetched len m1).readLoc m = s.readLoc m := by
  cases m <;> rfl

/-- Registers changed and then F written after fetch: nothing else changes, beside PC, R, the clock and the one draw. -/
theorem State.fetched_mapRegs_writeF_tick (s : State) (len m1 cyc : Nat) (g : Regs → Regs) (exact free known : Byte) :
    (((s.fetched len m1).mapRegs g).writeF exact free known).tick cyc =
      { s.advanced len m1 cyc with
        regs := { g s.regs with f := mergeF exact free (g s.regs).f known s.drawn }
        draws := s.draws + 1 } := rfl

/-- No operand m is F, so storing to it leaves F. -/
@[simp] theorem State.writeLoc_f (s : State) (m : Loc8) (v : Byte) : (s.writeLoc m v).regs.f = s.regs.f := by
  cases m with
  | reg r => exact Regs.set_f s.regs r v
  | atHL => rfl
  | atIdx x d => rfl

/-- An operand m stored and then F written after fetch: the store, and beside it PC, R, the clock, F and the one draw. -/
theorem State.fetched_writeLoc_writeF_tick (s : State) (len m1 cyc : Nat) (m : Loc8) (v exact free known : Byte) :
    (((s.fetched len m1).writeLoc m v).writeF exact free known).tick cyc =
      { (s.writeLoc m v).advanced len m1 cyc with
        regs := { (s.writeLoc m v).regs with f := mergeF exact free s.regs.f known s.drawn }
        draws := s.draws + 1 } := by
  rw [← State.writeLoc_f s m v]
  cases m <;> rfl

/-! ### The operations -/

/-- R266 to R273: A takes the result of `aluResult`, F its flags, with X1 and X2 drawn. -/
theorem alu_eq (o : AluOp) (src : Src8) (s : State) :
    alu o src s =
      .next { s.advanced (srcPick src 1 2 1 3) (srcPick src 1 1 1 2) (srcPick src 4 7 7 19) with
        regs := { s.regs with
          a := (aluResult o s.regs.a (s.readSrc src) (flagC s.regs.f)).1
          f := mergeF maskAll maskX s.regs.f (aluResult o s.regs.a (s.readSrc src) (flagC s.regs.f)).2 s.drawn }
        draws := s.draws + 1 } := by
  simp only [alu, runFixed_eq, State.fetched_mapRegs_writeF_tick, State.fetched_readSrc, State.fetched_regs, Regs.set_a]

theorem incLoc_eq (m : Loc8) (s : State) :
    incLoc m s =
      .next { (s.writeLoc m (s.readLoc m + 1)).advanced (locPick m 1 1 3) (locPick m 1 1 2) (locPick m 4 11 23) with
        regs := { (s.writeLoc m (s.readLoc m + 1)).regs with
          f := mergeF maskKeepC maskX s.regs.f (inc8 (s.readLoc m)).2 s.drawn }
        draws := s.draws + 1 } := by
  rw [incLoc, runFixed_eq, State.fetched_readLoc, State.fetched_writeLoc_writeF_tick, inc8]

theorem decLoc_eq (m : Loc8) (s : State) :
    decLoc m s =
      .next { (s.writeLoc m (s.readLoc m - 1)).advanced (locPick m 1 1 3) (locPick m 1 1 2) (locPick m 4 11 23) with
        regs := { (s.writeLoc m (s.readLoc m - 1)).regs with
          f := mergeF maskKeepC maskX s.regs.f (dec8 (s.readLoc m)).2 s.drawn }
        draws := s.draws + 1 } := by
  rw [decLoc, runFixed_eq, State.fetched_readLoc, State.fetched_writeLoc_writeF_tick, dec8]

/-! ### The flags of INC and DEC -/

/-- R263: five flags of the operand, and C the old one, as the mask says. -/
theorem flagsAre_mergeF_inc8 (old v drawn : Byte) :
    FlagsAre (mergeF maskKeepC maskX old (inc8 v).2 drawn)
      (v + 1).msb (v + 1 == 0) (v &&& 0xF == 0xF) (v == 0x7F) false (flagC old) := by
  simpa only [inc8, flagS_flagByte, flagZ_flagByte, flagH_flagByte, flagPV_flagByte, flagN_flagByte]
    using flagsAre_mergeF_keepC old (inc8 v).2 drawn

/-- R264: likewise for DEC. -/
theorem flagsAre_mergeF_dec8 (old v drawn : Byte) :
    FlagsAre (mergeF maskKeepC maskX old (dec8 v).2 drawn)
      (v - 1).msb (v - 1 == 0) (v &&& 0xF == 0) (v == 0x80) true (flagC old) := by
  simpa only [dec8, flagS_flagByte, flagZ_flagByte, flagH_flagByte, flagPV_flagByte, flagN_flagByte]
    using flagsAre_mergeF_keepC old (dec8 v).2 drawn

/-! ### The statements -/

/-- Settles O9: `alu_eq` gives the next state of all eight operations, whose operand, length and T-states the form of the
source selects; the flags are those of the helper by `sameFlags_mergeF_all`. -/
theorem aluOperations : Obligations.AluOperations := by
  intro i s o src h
  have hexec := (exec_of_op h s).trans (alu_eq o src s)
  have hflags := sameFlags_mergeF_all s.regs.f (aluResult o s.regs.a (s.readSrc src) (flagC s.regs.f)).2 s.drawn
  cases src <;> exact ⟨encode_of_op h, _, hflags, hexec⟩

/-- Settles O10: `incLoc_eq` and `decLoc_eq` give the next state, whose store, length and T-states the form of the operand
selects; C is the old one by `flagsAre_mergeF_keepC`. -/
theorem incrementAndDecrement : Obligations.IncrementAndDecrement := by
  refine fun i s m => ⟨fun h => ?inc, fun h => ?dec⟩
  case inc =>
    have hexec := (exec_of_op h s).trans (incLoc_eq m s)
    have hflags := flagsAre_mergeF_inc8 s.regs.f (s.readLoc m) s.drawn
    cases m <;> exact ⟨encode_of_op h, _, hflags, hexec⟩
  case dec =>
    have hexec := (exec_of_op h s).trans (decLoc_eq m s)
    have hflags := flagsAre_mergeF_dec8 s.regs.f (s.readLoc m) s.drawn
    cases m <;> exact ⟨encode_of_op h, _, hflags, hexec⟩

end Sys2Proof.Machine
end

section
/-! 16-bit INC and DEC (43_alu16.md R307 to R310): after fetch they change one register pair alone, so each operation is
one use of `State.fetched_mapRegs_tick`. -/

namespace Sys2Proof.Machine

/-! ### INC and DEC of a word by operation -/

theorem incPair_eq (p : Pair) (s : State) :
    incPair p s =
      .next { s.advanced 1 1 6 with regs := s.regs.setPair p (s.regs.getPair p + 1) } := by
  rw [incPair, runFixed_eq, State.fetched_mapRegs_tick]

theorem decPair_eq (p : Pair) (s : State) :
    decPair p s =
      .next { s.advanced 1 1 6 with regs := s.regs.setPair p (s.regs.getPair p - 1) } := by
  rw [decPair, runFixed_eq, State.fetched_mapRegs_tick]

theorem incIdx_eq (x : Idx) (s : State) :
    incIdx x s =
      .next { s.advanced 2 2 10 with regs := s.regs.setIdx x (s.regs.getIdx x + 1) } := by
  rw [incIdx, runFixed_eq, State.fetched_mapRegs_tick]

theorem decIdx_eq (x : Idx) (s : State) :
    decIdx x s =
      .next { s.advanced 2 2 10 with regs := s.regs.setIdx x (s.regs.getIdx x - 1) } := by
  rw [decIdx, runFixed_eq, State.fetched_mapRegs_tick]

/-! ### The statement -/

/-- Settles O13: each form is read off its operation (`encode_of_op`, `exec_of_op`), whose next state its own lemma gives;
only the pair's register is replaced, so F stays. -/
theorem incrementAndDecrementWord : Obligations.IncrementAndDecrementWord := by
  refine fun i s => ⟨fun p h => ?incPair, fun p h => ?decPair, fun x h => ?incIdx, fun x h => ?decIdx⟩
  case incPair => exact ⟨encode_of_op h, (exec_of_op h s).trans (incPair_eq p s)⟩
  case decPair => exact ⟨encode_of_op h, (exec_of_op h s).trans (decPair_eq p s)⟩
  case incIdx => exact ⟨encode_of_op h, (exec_of_op h s).trans (incIdx_eq x s)⟩
  case decIdx => exact ⟨encode_of_op h, (exec_of_op h s).trans (decIdx_eq x s)⟩

end Sys2Proof.Machine
end

section
/-! Rotates and shifts (44_rotate_shift.md R320 to R332): the model's bit expressions are the rotations and shifts of the
rules, and each of the two shapes (A with H, N and C written; an operand m with all flags written) has one lemma for its next
state. -/

namespace Sys2Proof.Machine

/-! ### The bit expressions -/

theorem getLsbD_bitIf (b : Bool) (m : Byte) (k : Nat) : (bitIf b m).getLsbD k = (b && m.getLsbD k) := by
  cases b
  case false => simp [bitIf]
  case true => simp [bitIf]

theorem getLsbD_0x80 {k : Nat} (hk : k < 8) : (0x80 : Byte).getLsbD k = decide (k = 7) := by
  revert k
  decide

/-- Bit 7 of a byte, moved to bit 0. -/
theorem bitIf_bit7 (v : Byte) : bitIf (v.getLsbD 7) 0x01 = v >>> 7 := by
  apply BitVec.eq_of_getLsbD_eq
  intro k hk
  rw [getLsbD_bitIf, BitVec.getLsbD_ushiftRight]
  cases k with
  | zero => simp
  | succ k => simp [BitVec.getLsbD_of_ge v (7 + (k + 1)) (by omega)]

/-- Bit 0 of a byte, moved to bit 7. -/
theorem bitIf_bit0 (v : Byte) : bitIf (v.getLsbD 0) 0x80 = v <<< 7 := by
  apply BitVec.eq_of_getLsbD_eq
  intro k hk
  rw [getLsbD_bitIf, BitVec.getLsbD_shiftLeft, getLsbD_0x80 hk]
  by_cases h7 : k = 7
  · subst h7; simp
  · have hlt : k < 7 := by omega
    simp [h7, hlt]

/-- R330: bit 7 kept beside the byte moved right is the arithmetic shift. -/
theorem ushiftRight_one_or_sign (v : Byte) : (v >>> 1) ||| (v &&& 0x80) = v.sshiftRight 1 := by
  apply BitVec.eq_of_getLsbD_eq
  intro k hk
  rw [BitVec.getLsbD_or, BitVec.getLsbD_and, BitVec.getLsbD_ushiftRight, BitVec.getLsbD_sshiftRight, getLsbD_0x80 hk]
  by_cases h7 : k = 7
  · subst h7; simp [BitVec.msb_eq_getLsbD_last]
  · have hlt : 1 + k < 8 := by omega
    simp [h7, hlt, hk]

/-- R320, R325. -/
theorem rlcBits_eq (v : Byte) : rlcBits v = (v.rotateLeft 1, v.getLsbD 7) := by
  have hmsb : v.msb = v.getLsbD 7 := BitVec.msb_eq_getLsbD_last v
  rw [rlcBits, hmsb, bitIf_bit7, BitVec.rotateLeft_def]

/-- R321, R326. -/
theorem rrcBits_eq (v : Byte) : rrcBits v = (v.rotateRight 1, v.getLsbD 0) := by
  rw [rrcBits, bitIf_bit0, BitVec.rotateRight_def]

/-- R322, R327. -/
theorem rlBits_eq (v : Byte) (c : Bool) : rlBits v c = ((v <<< 1) ||| (if c then 1 else 0), v.getLsbD 7) := rfl

/-- R323, R328. -/
theorem rrBits_eq (v : Byte) (c : Bool) : rrBits v c = ((v >>> 1) ||| (if c then 0x80 else 0), v.getLsbD 0) := rfl

/-! ### The flags -/

/-- The number of elements with `p` is even iff `p` is true an even number of times under exclusive or. -/
theorem decide_even_length_filter {α : Type} (p : α → Bool) (l : List α) :
    decide ((l.filter p).length % 2 = 0) = !(l.map p).foldr xor false := by
  induction l with
  | nil => rfl
  | cons x l ih =>
    have hparity : decide (((l.filter p).length + 1) % 2 = 0) = !decide ((l.filter p).length % 2 = 0) := by
      rw [← decide_not]
      exact decide_eq_decide.mpr (by omega)
    cases hx : p x
    case false => simpa [hx] using ih
    case true => simp [hx, hparity, ih]

/-- R11: the model's exclusive or of the eight bits says that the number of set bits is even. -/
theorem parity_eq_even_count (v : Byte) :
    parity v = decide (((List.range 8).filter fun k => v.getLsbD k).length % 2 = 0) := by
  rw [decide_even_length_filter]
  have hbits : (List.range 8).map (fun k => v.getLsbD k) =
      [v.getLsbD 0, v.getLsbD 1, v.getLsbD 2, v.getLsbD 3, v.getLsbD 4, v.getLsbD 5, v.getLsbD 6, v.getLsbD 7] := rfl
  rw [hbits]
  simp only [parity, List.foldr_cons, List.foldr_nil, Bool.xor_false, Bool.xor_assoc]

/-- The accumulator rotates write H = N = 0 and C, and keep S, Z and PV. -/
theorem flagsAre_mergeF_rotA (old drawn : Byte) (c : Bool) :
    FlagsAre (mergeF maskHNC maskX old (flagByte false false false false false c) drawn)
      (flagS old) (flagZ old) false (flagPV old) false c := by
  simpa only [flagH_flagByte, flagN_flagByte, flagC_flagByte]
    using flagsAre_mergeF_hnc old (flagByte false false false false false c) drawn

/-- R324: S, Z and PV of the result, H = N = 0, and C the bit shifted out. -/
theorem flagsAre_mergeF_rotFlags (old drawn w : Byte) (out : Bool) :
    FlagsAre (mergeF maskAll maskX old (rotFlags w out) drawn) w.msb (w == 0) false
      (decide (((List.range 8).filter fun k => w.getLsbD k).length % 2 = 0)) false out := by
  simpa only [SameFlags, rotFlags, flagS_flagByte, flagZ_flagByte, flagH_flagByte, flagPV_flagByte, flagN_flagByte,
    flagC_flagByte, parity_eq_even_count] using sameFlags_mergeF_all old (rotFlags w out) drawn

/-! ### The accumulator rotates by operation -/

theorem rlca_eq (s : State) :
    rlca s = .next ((rotA (s.regs.a.rotateLeft 1, s.regs.a.getLsbD 7) (s.fetched 1 1)).tick 4) := by
  rw [rlca, runFixed_eq, rlcBits_eq, State.fetched_regs]

theorem rrca_eq (s : State) :
    rrca s = .next ((rotA (s.regs.a.rotateRight 1, s.regs.a.getLsbD 0) (s.fetched 1 1)).tick 4) := by
  rw [rrca, runFixed_eq, rrcBits_eq, State.fetched_regs]

theorem rla_eq (s : State) :
    rla s = .next ((rotA ((s.regs.a <<< 1) ||| (if flagC s.regs.f then 1 else 0), s.regs.a.getLsbD 7)
      (s.fetched 1 1)).tick 4) := by
  rw [rla, runFixed_eq, rlBits_eq, State.fetched_regs]

theorem rra_eq (s : State) :
    rra s = .next ((rotA ((s.regs.a >>> 1) ||| (if flagC s.regs.f then 0x80 else 0), s.regs.a.getLsbD 0)
      (s.fetched 1 1)).tick 4) := by
  rw [rra, runFixed_eq, rrBits_eq, State.fetched_regs]

/-- What the four share: A takes `w` and C takes `c`; beside them PC, R, the clock, the other flags and the one draw. -/
theorem rotA_completes {s : State} {w : Byte} {c : Bool} {res : Result}
    (h : res = .next ((rotA (w, c) (s.fetched 1 1)).tick 4)) :
    ∃ f, FlagsAre f (flagS s.regs.f) (flagZ s.regs.f) false (flagPV s.regs.f) false c ∧
      res = .next { s.advanced 1 1 4 with regs := { s.regs with a := w, f := f }, draws := s.draws + 1 } := by
  refine ⟨_, flagsAre_mergeF_rotA s.regs.f s.drawn c, ?_⟩
  rw [h, rotA, State.fetched_mapRegs_writeF_tick, Regs.set_a]

/-! ### The CB rotates and shifts -/

/-- R324: m takes the result of `rotBits`, F its flags, with X1 and X2 drawn. -/
theorem rot_eq {o : RotOp} {m : Loc8} {s : State} {w : Byte} {out : Bool}
    (h : rotBits o (s.readLoc m) (flagC s.regs.f) = (w, out)) :
    rot o m s =
      .next { (s.writeLoc m w).advanced (locPick m 2 2 4) 2 (locPick m 8 15 23) with
        regs := { (s.writeLoc m w).regs with f := mergeF maskAll maskX s.regs.f (rotFlags w out) s.drawn }
        draws := s.draws + 1 } := by
  simp only [rot, runFixed_eq, State.fetched_readLoc, State.fetched_regs, h, State.fetched_writeLoc_writeF_tick]

/-! ### The statements -/

/-- Settles O14: each rotate's result is that of its `_eq` lemma, and `rotA_completes` gives the flags and the next state. -/
theorem accumulatorRotates : Obligations.AccumulatorRotates := by
  refine fun i s => ⟨fun h => ?rlca, fun h => ?rrca, fun h => ?rla, fun h => ?rra⟩
  case rlca => exact ⟨encode_of_op h, rotA_completes ((exec_of_op h s).trans (rlca_eq s))⟩
  case rrca => exact ⟨encode_of_op h, rotA_completes ((exec_of_op h s).trans (rrca_eq s))⟩
  case rla => exact ⟨encode_of_op h, rotA_completes ((exec_of_op h s).trans (rla_eq s))⟩
  case rra => exact ⟨encode_of_op h, rotA_completes ((exec_of_op h s).trans (rra_eq s))⟩

/-- Settles O15: the operation selects the result and the bit shifted out (`hbits`), which `rot_eq` stores and
`flagsAre_mergeF_rotFlags` reads as flags; the form of the operand selects the bytes, the store, the length and the
T-states. -/
theorem rotatesAndShifts : Obligations.RotatesAndShifts := by
  intro i s o m h v old w out
  have hv : s.readLoc m = v := by cases m <;> rfl
  have hbits : rotBits o v old = (w, out) := by
    cases o with
    | rlc => exact rlcBits_eq v
    | rrc => exact rrcBits_eq v
    | rl => exact rlBits_eq v old
    | rr => exact rrBits_eq v old
    | sra => exact congrArg (·, v.getLsbD 0) (ushiftRight_one_or_sign v)
    | sla | sll | srl => rfl
  have hexec := (exec_of_op h s).trans (rot_eq (hv ▸ hbits))
  have hflags := flagsAre_mergeF_rotFlags s.regs.f s.drawn w out
  cases m <;> exact ⟨encode_of_op h, _, hflags, hexec⟩

end Sys2Proof.Machine
end

section
/-! The relative jumps, calls and returns of 46_control.md (R375 to R384): after fetch an operation jumps relative to the
address after the instruction, pushes that address and jumps, or pops PC; each of these has one lemma for its next state,
and each operation is one use of its lemma. -/

namespace Sys2Proof.Machine

/-! ### What fetch leaves for the effect to see -/

/-- R370: after fetch a relative target counts from the address after the instruction. -/
theorem State.fetched_relative_tick (s : State) (len m1 cyc : Nat) (e : Byte) :
    ((s.fetched len m1).relative e).tick cyc =
      { s.advanced len m1 cyc with pc := s.pc + BitVec.ofNat 16 len + sext8 e } := rfl

/-- A relative jump whose effect also changes registers (R377). -/
theorem State.fetched_mapRegs_relative_tick (s : State) (len m1 cyc : Nat) (f : Regs → Regs) (e : Byte) :
    (((s.fetched len m1).mapRegs f).relative e).tick cyc =
      { s.advanced len m1 cyc with regs := f s.regs, pc := s.pc + BitVec.ofNat 16 len + sext8 e } := rfl

/-- A condition that does not hold leaves the fetched state with its T-states. -/
theorem State.fetched_tick (s : State) (len m1 cyc : Nat) : (s.fetched len m1).tick cyc = s.advanced len m1 cyc := rfl

/-- The advanced state with the address after the instruction pushed (R230), the high byte first, and PC at `w`. -/
def State.advancedCall (s : State) (len m1 cyc : Nat) (w : Word) : State :=
  { s.advanced len m1 cyc with
    regs := { s.regs with sp := s.regs.sp - 2 }
    mem := (s.mem.write (s.regs.sp - 1) (hi (s.pc + BitVec.ofNat 16 len))).write (s.regs.sp - 2)
      (lo (s.pc + BitVec.ofNat 16 len))
    pc := w }

theorem State.fetched_callTo_tick (s : State) (len m1 cyc : Nat) (w : Word) :
    ((s.fetched len m1).callTo w).tick cyc = s.advancedCall len m1 cyc w := rfl

/-- The advanced state with PC popped (R230), the low byte at SP. -/
def State.advancedReturn (s : State) (len m1 cyc : Nat) : State :=
  { s.advanced len m1 cyc with
    regs := { s.regs with sp := s.regs.sp + 2 }
    pc := join (s.read (s.regs.sp + 1)) (s.read s.regs.sp) }

theorem State.fetched_returned_tick (s : State) (len m1 cyc : Nat) :
    (s.fetched len m1).returned.tick cyc = s.advancedReturn len m1 cyc := rfl

theorem State.fetched_returnFromInterrupt_tick (s : State) (len m1 cyc : Nat) :
    (s.fetched len m1).returnFromInterrupt.tick cyc = { s.advancedReturn len m1 cyc with iff1 := s.iff2 } := rfl

/-! ### The relative jumps by operation -/

theorem jr_eq (e : Byte) (s : State) : jr e s = .next { s.advanced 2 1 12 with pc := s.pc + 2 + sext8 e } := by
  rw [jr, runFixed_eq, State.fetched_relative_tick]
  rfl

theorem jrCond_eq (k : JrCond) (e : Byte) (s : State) :
    jrCond k e s =
      .next (if condHolds (jrCondition k) s.regs.f
        then { s.advanced 2 1 12 with pc := s.pc + 2 + sext8 e } else s.advanced 2 1 7) := by
  rw [jrCond, runEither_whenCond, State.fetched_relative_tick, State.fetched_tick]
  rfl

/-- DJNZ's loop ends when B is 1 before the decrement. -/
theorem djnz_eq (e : Byte) (s : State) :
    djnz e s =
      .next (if s.regs.b = 1
        then { s.advanced 2 1 8 with regs := { s.regs with b := 0 } }
        else { s.advanced 2 1 13 with regs := { s.regs with b := s.regs.b - 1 }, pc := s.pc + 2 + sext8 e }) := by
  have hzero : s.regs.b - 1 = 0 ↔ s.regs.b = 1 := sub_eq_zero
  rw [djnz, runEither_ite]
  simp only [State.mapRegs_regs, State.fetched_regs, ne_eq, hzero, ite_not, State.fetched_mapRegs_tick,
    State.fetched_mapRegs_relative_tick]
  by_cases hb : s.regs.b = 1
  · rw [if_pos hb, if_pos hb, hzero.2 hb]
  · rw [if_neg hb, if_neg hb]
    rfl

/-! ### The calls and returns by operation -/

theorem call_eq (nn : Word) (s : State) : call nn s = .next (s.advancedCall 3 1 17 nn) := by
  rw [call, runFixed_eq, State.fetched_callTo_tick]

theorem callCond_eq (k : Cond) (nn : Word) (s : State) :
    callCond k nn s =
      .next (if condHolds k s.regs.f then s.advancedCall 3 1 17 nn else s.advanced 3 1 10) := by
  rw [callCond, runEither_whenCond, State.fetched_callTo_tick, State.fetched_tick]

theorem rst_eq (y : BitVec 3) (s : State) :
    rst y s = .next (s.advancedCall 1 1 11 (BitVec.ofNat 16 (8 * y.toNat))) := by
  rw [rst, runFixed_eq, State.fetched_callTo_tick]

theorem ret_eq (s : State) : ret s = .next (s.advancedReturn 1 1 10) := by
  rw [ret, runFixed_eq, State.fetched_returned_tick]

theorem retCond_eq (k : Cond) (s : State) :
    retCond k s = .next (if condHolds k s.regs.f then s.advancedReturn 1 1 11 else s.advanced 1 1 5) := by
  rw [retCond, runEither_whenCond, State.fetched_returned_tick, State.fetched_tick]

theorem reti_eq (s : State) : reti s = .next { s.advancedReturn 2 2 14 with iff1 := s.iff2 } := by
  rw [reti, runFixed_eq, State.fetched_returnFromInterrupt_tick]

theorem retn_eq (s : State) : retn s = .next { s.advancedReturn 2 2 14 with iff1 := s.iff2 } := by
  rw [retn, runFixed_eq, State.fetched_returnFromInterrupt_tick]

/-! ### The statements -/

/-- Settles O20: each jump is read off its operation (`encode_of_op`, `exec_of_op`), whose next state its own lemma gives;
the condition of JR cc selects its code and its flag. -/
theorem relativeJumps : Obligations.RelativeJumps := by
  refine fun i s e => ⟨fun h => ?jr, fun k h => ?jrCond, fun h => ?djnz⟩
  case jr => exact ⟨encode_of_op h, (exec_of_op h s).trans (jr_eq e s)⟩
  case jrCond =>
    have hexec := (exec_of_op h s).trans (jrCond_eq k e s)
    cases k <;> exact ⟨encode_of_op h, hexec⟩
  case djnz => exact ⟨encode_of_op h, (exec_of_op h s).trans (djnz_eq e s)⟩

/-- Settles O21: each call is read off its operation, whose next state its own lemma gives. -/
theorem calls : Obligations.Calls := by
  refine fun i s => ⟨fun nn h => ?call, fun k nn h => ?callCond, fun y h => ?rst⟩
  case call => exact ⟨encode_of_op h, (exec_of_op h s).trans (call_eq nn s)⟩
  case callCond => exact ⟨encode_of_op h, (exec_of_op h s).trans (callCond_eq k nn s)⟩
  case rst => exact ⟨encode_of_op h, (exec_of_op h s).trans (rst_eq y s)⟩

/-- Settles O22: each return is read off its operation, whose next state its own lemma gives. -/
theorem returns : Obligations.Returns := by
  refine fun i s => ⟨fun h => ?ret, fun k h => ?retCond, fun h => ?reti, fun h => ?retn⟩
  case ret => exact ⟨encode_of_op h, (exec_of_op h s).trans (ret_eq s)⟩
  case retCond => exact ⟨encode_of_op h, (exec_of_op h s).trans (retCond_eq k s)⟩
  case reti => exact ⟨encode_of_op h, (exec_of_op h s).trans (reti_eq s)⟩
  case retn => exact ⟨encode_of_op h, (exec_of_op h s).trans (retn_eq s)⟩

end Sys2Proof.Machine
end

section
/-! The accumulator operations of 49_cpu_control.md (R457 to R461): after fetch each replaces F, and NEG, CPL and DAA replace
A too. Each operation has one lemma for its next state, each mask one for its flags; the adjustment of DAA is read as R461
writes it. -/

namespace Sys2Proof.Machine

/-! ### The adjustment of DAA -/

/-- R461: the low digit of A. -/
theorem toNat_and_0x0F (v : Byte) : (v &&& 0x0F).toNat = v.toNat % 16 := by
  rw [BitVec.toNat_and]
  exact Nat.and_two_pow_sub_one_eq_mod v.toNat 4

theorem bitIf_decide (p : Prop) [Decidable p] (m : Byte) : bitIf (decide p) m = if p then m else 0 := by
  simp only [bitIf, decide_eq_true_eq]

theorem or_decide_eq_decide (b : Bool) (p : Prop) [Decidable p] : (b || decide p) = decide (b = true ∨ p) := by
  rw [Bool.decide_or, Bool.decide_eq_true]

/-- R461: the correction and the half carry in terms of the low digit `A mod 16`, the carry in terms of A. -/
theorem daaResult_eq (a : Byte) (n h c : Bool) :
    daaResult a n h c =
      let low := a.toNat % 16
      let corr : Byte := (if h = true ∨ low > 9 then 0x06 else 0) ||| (if c = true ∨ a.toNat > 0x99 then 0x60 else 0)
      let w := if n then a - corr else a + corr
      let half := if n then h && decide (low < 6) else decide (low > 9)
      (w, flagByte w.msb (w == 0) half (parity w) false (decide (c = true ∨ a.toNat > 0x99))) := by
  simp only [daaResult, toNat_and_0x0F, or_decide_eq_decide, bitIf_decide]

/-! ### The operations -/

/-- F written after fetch: nothing else changes, beside PC, R, the clock and the one draw. -/
theorem State.fetched_writeF_tick (s : State) (len m1 cyc : Nat) (exact free known : Byte) :
    ((s.fetched len m1).writeF exact free known).tick cyc =
      { s.advanced len m1 cyc with
        regs := { s.regs with f := mergeF exact free s.regs.f known s.drawn }
        draws := s.draws + 1 } := rfl

theorem neg_eq (s : State) :
    neg s =
      .next { s.advanced 2 2 8 with
        regs := { s.regs with
          a := (sub8 0 s.regs.a false).1
          f := mergeF maskAll maskX s.regs.f (sub8 0 s.regs.a false).2 s.drawn }
        draws := s.draws + 1 } := by
  simp only [neg, runFixed_eq, State.fetched_regs, State.fetched_mapRegs_writeF_tick, Regs.set_a]

theorem cpl_eq (s : State) :
    cpl s =
      .next { s.advanced 1 1 4 with
        regs := { s.regs with
          a := s.regs.a ^^^ 0xFF
          f := mergeF maskHN maskX s.regs.f (flagByte false false true false true false) s.drawn }
        draws := s.draws + 1 } := by
  rw [cpl, runFixed_eq, State.fetched_mapRegs_writeF_tick, Regs.set_a]

theorem scf_eq (s : State) :
    scf s =
      .next { s.advanced 1 1 4 with
        regs := { s.regs with
          f := mergeF maskHNC maskX s.regs.f (flagByte false false false false false true) s.drawn }
        draws := s.draws + 1 } := by
  rw [scf, runFixed_eq, State.fetched_writeF_tick]

theorem ccf_eq (s : State) :
    ccf s =
      .next { s.advanced 1 1 4 with
        regs := { s.regs with
          f := mergeF maskHNC maskX s.regs.f
            (flagByte false false (flagC s.regs.f) false false (!flagC s.regs.f)) s.drawn }
        draws := s.draws + 1 } := by
  rw [ccf, runFixed_eq, State.fetched_writeF_tick, State.fetched_regs]

theorem daa_eq {s : State} {w known : Byte}
    (h : daaResult s.regs.a (flagN s.regs.f) (flagH s.regs.f) (flagC s.regs.f) = (w, known)) :
    daa s =
      .next { s.advanced 1 1 4 with
        regs := { s.regs with a := w, f := mergeF maskDaa maskX s.regs.f known s.drawn }
        draws := s.draws + 1 } := by
  simp only [daa, runFixed_eq, State.fetched_regs, h, State.fetched_mapRegs_writeF_tick, Regs.set_a]

/-! ### The flags -/

/-- R458: CPL sets H and N. -/
theorem flagsAre_mergeF_cpl (old drawn : Byte) :
    FlagsAre (mergeF maskHN maskX old (flagByte false false true false true false) drawn)
      (flagS old) (flagZ old) true (flagPV old) true (flagC old) := by
  simpa only [flagH_flagByte, flagN_flagByte]
    using flagsAre_mergeF_hn old (flagByte false false true false true false) drawn

/-- R459, R460: SCF and CCF write H and C, and N = 0. -/
theorem flagsAre_mergeF_carry (old drawn : Byte) (h c : Bool) :
    FlagsAre (mergeF maskHNC maskX old (flagByte false false h false false c) drawn)
      (flagS old) (flagZ old) h (flagPV old) false c := by
  simpa only [flagH_flagByte, flagN_flagByte, flagC_flagByte]
    using flagsAre_mergeF_hnc old (flagByte false false h false false c) drawn

/-- R461: DAA writes all but N. -/
theorem flagsAre_mergeF_daaResult (old drawn : Byte) (s z h pv c : Bool) :
    FlagsAre (mergeF maskDaa maskX old (flagByte s z h pv false c) drawn) s z h pv (flagN old) c := by
  simpa only [flagS_flagByte, flagZ_flagByte, flagH_flagByte, flagPV_flagByte, flagC_flagByte]
    using flagsAre_mergeF_daa old (flagByte s z h pv false c) drawn

/-! ### The statement -/

/-- Settles O29: each operation's lemma gives the next state, the lemma of its mask the flags; `daaResult_eq` reads the
adjustment of DAA as R461 writes it. -/
theorem accumulatorOperations : Obligations.AccumulatorOperations := by
  refine fun i s => ⟨fun h => ?neg, fun h => ?cpl, fun h => ?scf, fun h => ?ccf, fun h => ?daa⟩
  case neg =>
    exact ⟨encode_of_op h, _, sameFlags_mergeF_all s.regs.f _ s.drawn, (exec_of_op h s).trans (neg_eq s)⟩
  case cpl =>
    exact ⟨encode_of_op h, _, flagsAre_mergeF_cpl s.regs.f s.drawn, (exec_of_op h s).trans (cpl_eq s)⟩
  case scf =>
    exact ⟨encode_of_op h, _, flagsAre_mergeF_carry s.regs.f s.drawn false true, (exec_of_op h s).trans (scf_eq s)⟩
  case ccf =>
    exact ⟨encode_of_op h, _, flagsAre_mergeF_carry s.regs.f s.drawn (flagC s.regs.f) (!flagC s.regs.f),
      (exec_of_op h s).trans (ccf_eq s)⟩
  case daa =>
    exact ⟨encode_of_op h, _, flagsAre_mergeF_daaResult s.regs.f s.drawn _ _ _ _ _,
      (exec_of_op h s).trans (daa_eq (daaResult_eq _ _ _ _))⟩

end Sys2Proof.Machine
end

section
/-! Decode and encode (30_encoding.md): each instruction's encoding is read back by cases on the instruction; the other
direction goes through the tables, each of which is compared whole with the encodings of its entries. -/

namespace Sys2Proof

/-! ### Decoding an encoding -/

/-- What the decoder joins from the two bytes of a word is that word (R171). -/
theorem decoded_word {x : Decoded} {f : Word → Instr} {nn : Word} {rest : List Byte}
    (h : x = .instr (f (join (hi nn) (lo nn))) rest) : x = .instr (f nn) rest := by
  rw [h, join_hi_lo]

theorem forall_bitVec3 {P : BitVec 3 → Prop} (h : P 0 ∧ P 1 ∧ P 2 ∧ P 3 ∧ P 4 ∧ P 5 ∧ P 6 ∧ P 7) : ∀ z, P z := by
  obtain ⟨h0, h1, h2, h3, h4, h5, h6, h7⟩ := h
  intro z
  have hz : z ∈ [0#3, 1#3, 2#3, 3#3, 4#3, 5#3, 6#3, 7#3] := by revert z; decide
  simp only [List.mem_cons, List.not_mem_nil, or_false] at hz
  rcases hz with rfl | rfl | rfl | rfl | rfl | rfl | rfl | rfl <;> assumption

/-- The decoder looks up the opcode of the instruction, whatever its operand bytes; an `nn` is put together again, and
each low field of an indexed BIT has its own table entry (R176). -/
theorem decode_encode (i : Instr) (rest : List Byte) : decode (encode i ++ rest) = .instr i rest := by
  cases i
  case ld_BC_nn nn | ld_DE_nn nn | ld_HL_nn nn | ld_AtNN_HL nn | ld_HL_AtNN nn | ld_SP_nn nn | ld_AtNN_A nn
    | ld_A_AtNN nn | jp_NZ_nn nn | jp_nn nn | call_NZ_nn nn | jp_Z_nn nn | call_Z_nn nn | call_nn nn | jp_NC_nn nn
    | call_NC_nn nn | jp_C_nn nn | call_C_nn nn | jp_PO_nn nn | call_PO_nn nn | jp_PE_nn nn | call_PE_nn nn
    | jp_P_nn nn | call_P_nn nn | jp_M_nn nn | call_M_nn nn | ld_AtNN_BC nn | ld_BC_AtNN nn | ld_AtNN_DE nn
    | ld_DE_AtNN nn | ld_AtNN_HL_ed nn | ld_HL_AtNN_ed nn | ld_AtNN_SP nn | ld_SP_AtNN nn | ld_IX_nn nn
    | ld_AtNN_IX nn | ld_IX_AtNN nn | ld_IY_nn nn | ld_AtNN_IY nn | ld_IY_AtNN nn =>
    exact decoded_word (nn := nn) rfl
  case bit_0_AtIXd d z | bit_1_AtIXd d z | bit_2_AtIXd d z | bit_3_AtIXd d z | bit_4_AtIXd d z | bit_5_AtIXd d z
    | bit_6_AtIXd d z | bit_7_AtIXd d z | bit_0_AtIYd d z | bit_1_AtIYd d z | bit_2_AtIYd d z | bit_3_AtIYd d z
    | bit_4_AtIYd d z | bit_5_AtIYd d z | bit_6_AtIYd d z | bit_7_AtIYd d z =>
    revert z
    exact forall_bitVec3 ⟨rfl, rfl, rfl, rfl, rfl, rfl, rfl, rfl⟩
  all_goals rfl

/-- Settles O49: `decode_encode`. -/
theorem decodeOfEncode : Obligations.DecodeOfEncode := decode_encode

/-- Settles O53: each word is an encoding, which `decode_encode` reads back. -/
theorem wordsDecode : Obligations.WordsDecode :=
  ⟨decode_encode .ld_C_B [], decode_encode (.ld_BC_nn 0x3310) [], decode_encode (.add_A_n 0x70) [],
    decode_encode .sbc_HL_DE [], decode_encode (.rl_AtIXd 0x01) [], decode_encode (.set_7_AtIYd 0x05) [],
    decode_encode (.call_nn 0x8000) [], decode_encode (.in_A_PortN 0xBF) [], decode_encode .ldir [],
    decode_encode .halt []⟩

/-! ### What the tables hold -/

/-- The encoding of an entry's instruction, as a function of its operand bytes. -/
def OpcodeEntry.encoded : OpcodeEntry → Byte → Byte → List Byte
  | .unknown, _, _ => []
  | .plain i, _, _ => encode i
  | .byte f, n, _ => encode (f n)
  | .word f, l, h => encode (f (join h l))
  | .dispImm f, d, n => encode (f d n)

/-- The opcode bytes `pre` and `post` around as many operand bytes as the entry takes. -/
def OpcodeEntry.around (pre post : List Byte) : OpcodeEntry → Byte → Byte → List Byte
  | .unknown, _, _ => []
  | .plain _, _, _ => pre ++ post
  | .byte _, n, _ => pre ++ n :: post
  | .word _, l, h => pre ++ wordBytes (join h l) ++ post
  | .dispImm _, d, n => pre ++ d :: n :: post

/-- Every entry of a table, at its opcode, is encoded by the table's opcode bytes around its operand bytes. -/
def SpelledBy (pre post : Byte → List Byte) (t : List (List OpcodeEntry)) : Prop :=
  t.map (·.map OpcodeEntry.encoded) =
    t.mapIdx fun r row => row.mapIdx fun c e =>
      e.around (pre (BitVec.ofNat 8 (16 * r + c))) (post (BitVec.ofNat 8 (16 * r + c)))

theorem mainTable_spelledBy : SpelledBy (fun op => [op]) (fun _ => []) mainTable := rfl
theorem cbTable_spelledBy : SpelledBy (fun op => [0xCB, op]) (fun _ => []) cbTable := rfl
theorem edTable_spelledBy : SpelledBy (fun op => [0xED, op]) (fun _ => []) edTable := rfl
theorem ddTable_spelledBy : SpelledBy (fun op => [0xDD, op]) (fun _ => []) ddTable := rfl
theorem fdTable_spelledBy : SpelledBy (fun op => [0xFD, op]) (fun _ => []) fdTable := rfl
theorem ddcbTable_spelledBy : SpelledBy (fun _ => [0xDD, 0xCB]) (fun op => [op]) ddcbTable := rfl
theorem fdcbTable_spelledBy : SpelledBy (fun _ => [0xFD, 0xCB]) (fun op => [op]) fdcbTable := rfl

/-- What a table says row by row, the entry at an opcode says. -/
theorem SpelledBy.lookup {pre post : Byte → List Byte} {t : List (List OpcodeEntry)} (h : SpelledBy pre post t)
    (op : Byte) : (lookupOpcode t op).encoded = (lookupOpcode t op).around (pre op) (post op) := by
  have hop : BitVec.ofNat 8 (16 * (op.toNat / 16) + op.toNat % 16) = op := by
    rw [Nat.div_add_mod, BitVec.ofNat_toNat, BitVec.setWidth_eq]
  unfold lookupOpcode
  simp only [List.getD_eq_getElem?_getD]
  cases hrow : t[op.toNat / 16]? with
  | none => rfl
  | some row =>
    simp only [Option.getD_some]
    cases he : row[op.toNat % 16]? with
    | none => rfl
    | some e =>
      have hr := congrArg (·[op.toNat / 16]?) h
      simp only [List.getElem?_map, List.getElem?_mapIdx, hrow, Option.map_some, Option.some.injEq] at hr
      have hc := congrArg (·[op.toNat % 16]?) hr
      simp only [List.getElem?_map, List.getElem?_mapIdx, he, Option.map_some, Option.some.injEq, hop] at hc
      exact hc

/-- An entry of a DD CB or FD CB table takes no operand byte but the displacement. -/
def OpcodeEntry.atMostByte : OpcodeEntry → Bool
  | .unknown | .byte _ => true
  | _ => false

theorem lookupOpcode_unknown_or_mem (t : List (List OpcodeEntry)) (op : Byte) :
    lookupOpcode t op = .unknown ∨ ∃ row ∈ t, lookupOpcode t op ∈ row := by
  unfold lookupOpcode
  simp only [List.getD_eq_getElem?_getD]
  cases hrow : t[op.toNat / 16]? with
  | none => exact .inl rfl
  | some row =>
    simp only [Option.getD_some]
    cases he : row[op.toNat % 16]? with
    | none => exact .inl rfl
    | some e => exact .inr ⟨row, List.mem_of_getElem? hrow, List.mem_of_getElem? he⟩

theorem lookupOpcode_atMostByte {t : List (List OpcodeEntry)} (h : t.all (·.all OpcodeEntry.atMostByte) = true)
    (op : Byte) : (lookupOpcode t op).atMostByte = true := by
  rcases lookupOpcode_unknown_or_mem t op with hu | ⟨row, hrow, hmem⟩
  · rw [hu]; rfl
  · exact List.all_eq_true.1 (List.all_eq_true.1 h row hrow) _ hmem

/-! ### Encoding what was decoded -/

theorem decode_cons (op : Byte) (bs : List Byte) :
    decode (op :: bs) =
      if op = 0xCB then decodeTwoByte op cbTable bs
      else if op = 0xED then decodeTwoByte op edTable bs
      else if op = 0xDD then decodeIdx op ddTable ddcbTable bs
      else if op = 0xFD then decodeIdx op fdTable fdcbTable bs
      else takeOperands [op] (lookupOpcode mainTable op) bs := rfl

theorem decodeIdx_cons (p : Byte) (t tcb : List (List OpcodeEntry)) (op : Byte) (bs : List Byte) :
    decodeIdx p t tcb (op :: bs) =
      if op = 0xCB then decodeIdxCb p tcb bs else takeOperands [p, op] (lookupOpcode t op) bs := rfl

theorem decodeIdxCb_cons (p : Byte) (t : List (List OpcodeEntry)) (d op : Byte) (bs : List Byte) :
    decodeIdxCb p t (d :: op :: bs) = takeOperands [p, 0xCB, d, op] (lookupOpcode t op) (d :: bs) := rfl

section
variable {p op : Byte} {t tcb : List (List OpcodeEntry)} {bs rest : List Byte} {i : Instr}

/-- The bytes taken after the opcode bytes `pre` are the operand bytes of the encoding. -/
theorem encode_append_of_takeOperands {read pre : List Byte} {e : OpcodeEntry} (he : e.encoded = e.around pre [])
    (h : takeOperands read e bs = .instr i rest) : pre ++ bs = encode i ++ rest := by
  cases e with
  | unknown => cases h
  | plain j =>
    cases h
    have hj : encode i = pre ++ [] := congrFun (congrFun he 0) 0
    rw [hj, List.append_nil]
  | byte f =>
    obtain _ | ⟨n, bs⟩ := bs
    · cases h
    · cases h
      have hn : encode (f n) = pre ++ [n] := congrFun (congrFun he n) 0
      rw [hn, List.append_assoc]; rfl
  | word f =>
    obtain _ | ⟨l, _ | ⟨m, bs⟩⟩ := bs
    · cases h
    · cases h
    · cases h
      have hw : encode (f (join m l)) = pre ++ [lo (join m l), hi (join m l)] ++ [] := congrFun (congrFun he l) m
      rw [hw, lo_join, hi_join, List.append_nil, List.append_assoc]; rfl
  | dispImm f =>
    obtain _ | ⟨d, _ | ⟨n, bs⟩⟩ := bs
    · cases h
    · cases h
    · cases h
      have hd : encode (f d n) = pre ++ [d, n] := congrFun (congrFun he d) n
      rw [hd, List.append_assoc]; rfl

theorem encode_append_of_decodeTwoByte (ht : SpelledBy (fun op => [p, op]) (fun _ => []) t)
    (h : decodeTwoByte p t bs = .instr i rest) : p :: bs = encode i ++ rest := by
  cases bs with
  | nil => cases h
  | cons op bs => exact encode_append_of_takeOperands (ht.lookup op) h

theorem encode_append_of_decodeIdxCb (hs : SpelledBy (fun _ => [p, 0xCB]) (fun op => [op]) tcb)
    (hb : tcb.all (·.all OpcodeEntry.atMostByte) = true) (h : decodeIdxCb p tcb bs = .instr i rest) :
    p :: 0xCB :: bs = encode i ++ rest := by
  obtain _ | ⟨d, _ | ⟨op, bs⟩⟩ := bs
  · cases h
  · cases h
  have hop := hs.lookup op
  have hone := lookupOpcode_atMostByte hb op
  rw [decodeIdxCb_cons] at h
  cases he : lookupOpcode tcb op with
  | unknown => rw [he] at h; cases h
  | byte f =>
    rw [he] at h hop
    cases h
    have hd : encode (f d) = [p, 0xCB] ++ [d, op] := congrFun (congrFun hop d) 0
    rw [hd]; rfl
  | plain | word | dispImm => rw [he] at hone; cases hone

theorem encode_append_of_decodeIdx (ht : SpelledBy (fun op => [p, op]) (fun _ => []) t)
    (hs : SpelledBy (fun _ => [p, 0xCB]) (fun op => [op]) tcb) (hb : tcb.all (·.all OpcodeEntry.atMostByte) = true)
    (h : decodeIdx p t tcb bs = .instr i rest) : p :: bs = encode i ++ rest := by
  cases bs with
  | nil => cases h
  | cons op bs =>
    rw [decodeIdx_cons] at h
    split at h
    · next hcb => rw [hcb]; exact encode_append_of_decodeIdxCb hs hb h
    · exact encode_append_of_takeOperands (ht.lookup op) h

end

/-- Settles O50: by the lead byte, through the table that it selects. -/
theorem encodeOfDecode : Obligations.EncodeOfDecode := by
  intro bytes i rest h
  cases bytes with
  | nil => cases h
  | cons op bs =>
    rw [decode_cons] at h
    split at h
    · next hop => subst hop; exact encode_append_of_decodeTwoByte cbTable_spelledBy h
    split at h
    · next hop => subst hop; exact encode_append_of_decodeTwoByte edTable_spelledBy h
    split at h
    · next hop => subst hop; exact encode_append_of_decodeIdx ddTable_spelledBy ddcbTable_spelledBy rfl h
    split at h
    · next hop => subst hop; exact encode_append_of_decodeIdx fdTable_spelledBy fdcbTable_spelledBy rfl h
    · exact encode_append_of_takeOperands (mainTable_spelledBy.lookup op) h

/-! ### The admitted rows (R160) -/

/-- The operations of class `unlisted`, as D1 lists them. -/
def Op.isUnlisted : Op → Bool
  | .reti | .retn | .rld | .rrd | .cpBlock .dec | .cpBlockRep .dec | .inBlock .dec | .inBlockRep .dec => true
  | .outBlockRep .dec | .ldIA | .ldRA | .ldPairMem _ _ | .ldMemPair _ _ => true
  | _ => false

theorem Op.rowClass_ne_unlisted (o : Op) : (o.rowClass != .unlisted) = !o.isUnlisted := by
  cases o
  case bitTestIdx b x d z =>
    unfold Op.rowClass
    dsimp only
    split <;> rfl
  case cpBlock g | cpBlockRep g | inBlock g | inBlockRep g | outBlockRep g => cases g <;> rfl
  case rot o m => cases o <;> rfl
  all_goals rfl

/-- Every row of class `unlisted` has two opcode bytes, so the unmatched bytes are its own. -/
theorem Op.two_le_length_of_isUnlisted {o : Op} (h : o.isUnlisted = true) : 2 ≤ o.encode.length := by
  cases o
  case reti | retn | rld | rrd | cpBlock | cpBlockRep | inBlock | inBlockRep | outBlockRep | ldIA | ldRA | ldPairMem
    | ldMemPair => exact Nat.le_of_ble_eq_true rfl
  all_goals cases h

theorem decodeAdmitted_encode (p : Params) (i : Instr) (rest : List Byte) :
    decodeAdmitted p (encode i ++ rest) =
      if p.admitUnlisted = false ∧ i.op.isUnlisted = true then .unknown ((encode i).take 2) else .instr i rest := by
  rw [decodeAdmitted, decode_encode]
  dsimp only
  rw [Instr.admitted, Instr.rowClass, Op.rowClass_ne_unlisted]
  cases hu : i.op.isUnlisted with
  | false => simp
  | true =>
    have hlen : 2 ≤ (encode i).length := Op.two_le_length_of_isUnlisted hu
    rw [List.take_append_of_le_length hlen]
    cases p.admitUnlisted <;> rfl

/-- Settles O51: `decodeAdmitted_encode`. -/
theorem admittedRows : Obligations.AdmittedRows := decodeAdmitted_encode

/-! ### The bytes that no row lists (R173 to R177) -/

def OpcodeEntry.isUnknown : OpcodeEntry → Bool
  | .unknown => true
  | _ => false

theorem takeOperands_of_isUnknown {e : OpcodeEntry} (h : e.isUnknown = true) (read bs : List Byte) :
    takeOperands read e bs = .unknown read := by
  cases e with
  | unknown => rfl
  | plain | byte | word | dispImm => cases h

/-- The second bytes after ED that R174 lists, by the fields of the byte. -/
abbrev EdListed (op : Byte) : Prop :=
  (op.toNat / 64 = 1 ∧ (op.toNat % 8 = 0 ∨ op.toNat % 8 = 1) ∧ op.toNat / 8 % 8 ≠ 6) ∨
    (op.toNat / 64 = 1 ∧ (op.toNat % 8 = 2 ∨ op.toNat % 8 = 3)) ∨
    op ∈ [0x44#8, 0x45#8, 0x4D#8, 0x46#8, 0x56#8, 0x5E#8, 0x47#8, 0x4F#8, 0x57#8, 0x5F#8, 0x67#8, 0x6F#8] ∨
    (op.toNat / 64 = 2 ∧ 4 ≤ op.toNat / 8 % 8 ∧ op.toNat % 8 < 4)

/-- The second bytes after DD and FD that R175 lists, 0xCB with them. -/
abbrev IdxListed (op : Byte) : Prop :=
  op ∈ [0x09#8, 0x19#8, 0x29#8, 0x39#8, 0x21#8, 0x22#8, 0x2A#8, 0x23#8, 0x2B#8, 0x34#8, 0x35#8, 0x36#8,
      0xE1#8, 0xE3#8, 0xE5#8, 0xE9#8, 0xF9#8, 0xCB#8] ∨
    (op.toNat / 64 = 1 ∧ op.toNat % 8 = 6 ∧ op.toNat / 8 % 8 ≠ 6) ∨
    (op.toNat / 64 = 1 ∧ op.toNat / 8 % 8 = 6 ∧ op.toNat % 8 ≠ 6) ∨ (op.toNat / 64 = 2 ∧ op.toNat % 8 = 6)

theorem edTable_unknown_of_not_listed :
    ∀ op : Byte, EdListed op ∨ (lookupOpcode edTable op).isUnknown = true := by
  decide

theorem idxTables_unknown_of_not_listed :
    ∀ op : Byte, IdxListed op ∨
      (lookupOpcode ddTable op).isUnknown = true ∧ (lookupOpcode fdTable op).isUnknown = true := by
  decide

theorem idxCbTables_unknown_of_not_listed :
    ∀ op : Byte, op.toNat % 8 = 6 ∨ op.toNat / 64 = 1 ∨
      (lookupOpcode ddcbTable op).isUnknown = true ∧ (lookupOpcode fdcbTable op).isUnknown = true := by
  decide

/-- Settles O52: a byte that is not listed has an unknown entry in its table, which reads no operand. -/
theorem unadmittedBytes : Obligations.UnadmittedBytes := by
  intro p op d rest
  refine ⟨fun hed => ?ed, fun hp hidx => ?idx, fun hp hz hx => ?idxCb⟩
  case ed =>
    exact takeOperands_of_isUnknown ((edTable_unknown_of_not_listed op).resolve_left hed) _ _
  case idx =>
    obtain ⟨hdd, hfd⟩ := (idxTables_unknown_of_not_listed op).resolve_left hidx
    have hcb : op ≠ 0xCB := by rintro rfl; exact hidx (by decide)
    rcases hp with rfl | rfl
    · exact (if_neg hcb).trans (takeOperands_of_isUnknown hdd _ _)
    · exact (if_neg hcb).trans (takeOperands_of_isUnknown hfd _ _)
  case idxCb =>
    obtain ⟨hdd, hfd⟩ := ((idxCbTables_unknown_of_not_listed op).resolve_left hz).resolve_left hx
    rcases hp with rfl | rfl
    · exact takeOperands_of_isUnknown hdd _ _
    · exact takeOperands_of_isUnknown hfd _ _

end Sys2Proof
end

section
/-! What every step keeps: the canonical form of the memories, the time base of the VDP, and the clock, the cartridge and
the parameters. Each is one use of `Keeps.step`; and the two invariants hold after a reset. -/

namespace Sys2Proof.Machine

/-! ### A port access changes the VDP by one of its operations -/

/-- A property of the VDP that a data read, a status read and clearing the latch keep is kept by a port read. -/
theorem State.portRead_vdp_induction {P : Vdp → Prop} {s : State} (p : Byte) (h : P s.vdp)
    (hdata : P s.vdp → P s.vdp.dataRead.2) (hstatus : P s.vdp → P (s.vdp.statusRead s.drawn).2)
    (hlatch : P s.vdp → P s.vdp.clearLatch) : P (s.portRead p).2.vdp := by
  obtain e | e | e | e := State.portRead_vdp s p
  · exact e ▸ h
  · exact e ▸ hdata h
  · exact e ▸ hstatus h
  · exact e ▸ hlatch h

/-- One that a data write and a control write keep is kept by a port write. -/
theorem State.portWrite_vdp_induction {P : Vdp → Prop} {s : State} (p b : Byte) (h : P s.vdp)
    (hdata : P s.vdp → P (s.vdp.dataWrite s.drawn b))
    (hcontrol : P s.vdp → P (s.vdp.controlWrite s.params s.cycles b)) : P (s.portWrite p b).vdp := by
  obtain e | e | e := State.portWrite_vdp s p b
  · exact e ▸ h
  · exact e ▸ hdata h
  · exact e ▸ hcontrol h

/-! ### The canonical form of the memories -/

/-- The invariant, by the cartridge, the mapper and the VDP. -/
theorem State.memWf_iff (s : State) :
    s.MemWf ↔ Mem.wf (256 * 16384) s.cart.rom ∧ s.mem.MemWf ∧ s.vdp.MemWf := by
  constructor
  · rintro ⟨hrom, hram, h0, h1, hv, hc⟩; exact ⟨hrom, ⟨hram, h0, h1⟩, hv, hc⟩
  · rintro ⟨hrom, ⟨hram, h0, h1⟩, hv, hc⟩; exact ⟨hrom, hram, h0, h1, hv, hc⟩

theorem State.MemWf.withVdp {s t : State} (h : s.MemWf) (hcart : t.cart = s.cart) (hmem : t.mem = s.mem)
    (hvdp : s.vdp.MemWf → t.vdp.MemWf) : t.MemWf := by
  obtain ⟨hrom, hm, hv⟩ := s.memWf_iff.1 h
  exact t.memWf_iff.2 ⟨hcart ▸ hrom, hmem ▸ hm, hvdp hv⟩

theorem keeps_memWf : Keeps State.MemWf where
  regs _ _ h := h
  write s a v h := by
    obtain ⟨hrom, hm, hv⟩ := s.memWf_iff.1 h
    exact (s.write a v).memWf_iff.2 ⟨hrom, Mapper.write_wf hm a v, hv⟩
  control _ _ _ _ _ _ _ _ _ h := h
  drew _ h := h
  tick _ _ h := h
  portRead s p h := by
    rw [State.portRead_frame]
    exact h.withVdp rfl rfl fun hv => State.portRead_vdp_induction p hv (Vdp.dataRead_keeps _ (t := 0)).1
      (Vdp.statusRead_keeps _ _ (t := 0)).1 (Vdp.clearLatch_keeps _ (t := 0)).1
  portWrite s p b h := by
    rw [State.portWrite_frame]
    exact h.withVdp rfl rfl fun hv => State.portWrite_vdp_induction p b hv (Vdp.dataWrite_keeps _ _ _ (t := 0)).1
      (Vdp.controlWrite_keeps _ _ _ _ (t := 0)).1

/-- Settles O54: the elementary updates keep the form (`keeps_memWf`), and so does the update at the poll. -/
theorem stepKeepsMemoryForm : Obligations.StepKeepsMemoryForm := fun _ _ e h =>
  keeps_memWf.step (fun u (hu : u.MemWf) => hu.withVdp (t := u.polled) rfl rfl Vdp.update_mem) (fun _ hu => hu)
    (fun _ _ hu => hu) e h

/-! ### The time base of the VDP -/

/-- The invariant of StepKeepsVideoTiming. -/
def State.VideoTimed (s : State) : Prop := 0 < s.params.hsyncTime ∧ s.TimingWf ∧ s.ScrollWf

theorem State.VideoTimed.withVdp {s t : State} (h : s.VideoTimed) (hparams : t.params = s.params)
    (hcycles : t.cycles = s.cycles) (htiming : s.vdp.TimingWf s.cycles → t.vdp.TimingWf s.cycles)
    (hscroll : s.vdp.ScrollWf → t.vdp.ScrollWf) : t.VideoTimed := by
  obtain ⟨hp, ht, hs⟩ := h
  refine ⟨hparams ▸ hp, ?_, hscroll hs⟩
  have := htiming ht
  rwa [← hcycles] at this

theorem keeps_videoTimed : Keeps State.VideoTimed where
  regs _ _ h := h
  write _ _ _ h := h
  control _ _ _ _ _ _ _ _ _ h := h
  drew _ h := h
  tick s n h := by
    obtain ⟨hp, ⟨hpast, hline, hreload⟩, hs⟩ := h
    exact ⟨hp, ⟨Nat.le_add_right_of_le hpast, hline, hreload⟩, hs⟩
  portRead s p h := by
    rw [State.portRead_frame]
    exact h.withVdp rfl rfl
      (fun ht => State.portRead_vdp_induction (P := Vdp.TimingWf s.cycles) p ht (Vdp.dataRead_keeps _).2.2
        (Vdp.statusRead_keeps _ _).2.2 (Vdp.clearLatch_keeps _).2.2)
      (fun hs => State.portRead_vdp_induction p hs (Vdp.dataRead_keeps _ (t := 0)).2.1
        (Vdp.statusRead_keeps _ _ (t := 0)).2.1 (Vdp.clearLatch_keeps _ (t := 0)).2.1)
  portWrite s p b h := by
    rw [State.portWrite_frame]
    exact h.withVdp rfl rfl
      (fun ht => State.portWrite_vdp_induction (P := Vdp.TimingWf s.cycles) p b ht (Vdp.dataWrite_keeps _ _ _).2.2
        (Vdp.controlWrite_keeps _ _ _ _).2.2)
      (fun hs => State.portWrite_vdp_induction p b hs (Vdp.dataWrite_keeps _ _ _ (t := 0)).2.1
        (Vdp.controlWrite_keeps _ _ _ _ (t := 0)).2.1)

theorem State.VideoTimed.polled {s : State} (h : s.VideoTimed) : s.polled.VideoTimed :=
  h.withVdp rfl rfl (Vdp.update_timing h.1) Vdp.update_scroll

/-- Settles O55: the elementary updates keep the time base (`keeps_videoTimed`), and so does the update at the poll. -/
theorem stepKeepsVideoTiming : Obligations.StepKeepsVideoTiming := fun _ _ e h =>
  keeps_videoTimed.step (fun _ hu => hu.polled) (fun _ hu => hu) (fun _ _ hu => hu) e h

/-! ### Where no step is taken, and what no step undoes -/

theorem step_of_fault {s : State} (h : s.fault ≠ none) : step s = .next s :=
  if_pos (Option.isSome_iff_ne_none.2 h)

/-- Settles O40: the two first tests of the step. -/
theorem terminalStates : Obligations.TerminalStates := by
  refine fun s => ⟨step_of_fault, fun hf hc => ?_⟩
  have hvalid : (!s.cart.valid) = true := by
    simp only [Cart.valid, Bool.not_eq_true', Bool.and_eq_false_iff, decide_eq_false_iff_not]
    omega
  unfold step State.cycle
  rw [hf, if_neg (by decide), if_pos hvalid]

/-- The state comes no earlier than `s`, on the same cartridge with the same parameters. -/
def State.Follows (s u : State) : Prop := s.cycles ≤ u.cycles ∧ u.cart = s.cart ∧ u.params = s.params

theorem keeps_follows (s : State) : Keeps s.Follows where
  regs _ _ h := h
  write _ _ _ h := h
  control _ _ _ _ _ _ _ _ _ h := h
  drew _ h := h
  tick _ _ h := ⟨Nat.le_add_right_of_le h.1, h.2⟩
  portRead u p h := by rw [State.portRead_frame]; exact h
  portWrite u p b h := by rw [State.portWrite_frame]; exact h

/-- Settles O60: a faulted machine stays (`step_of_fault`), and every other step is made of updates that turn nothing
back. -/
theorem stepMonotone : Obligations.StepMonotone := by
  intro s t e
  obtain ⟨hcycles, hcart, hparams⟩ : s.Follows t :=
    (keeps_follows s).step (fun _ hu => hu) (fun _ hu => hu) (fun _ _ hu => hu) e ⟨Nat.le_refl _, rfl, rfl⟩
  refine ⟨hcycles, hcart, hparams, fun hf => ?_⟩
  rw [step_of_fault hf] at e
  cases e
  rfl

/-! ### Reset (R61, R600, R601) -/

theorem State.resetWith_memWf (p : Params) {c : Cart} (h : Mem.wf (256 * 16384) c.rom) :
    (State.resetWith p c).MemWf :=
  ⟨h, Mem.wf_nil _, Mem.wf_nil _, Mem.wf_nil _, Mem.wf_nil _, Mem.wf_nil _⟩

theorem Vdp.reset_reg (p : Params) (k : BitVec 4) : (Vdp.reset p).reg k = 0x00 := by
  simp [Vdp.reg, Vdp.reset]

theorem State.resetWith_videoTimed {p : Params} (c : Cart) (h : 0 < p.hsyncTime) : (State.resetWith p c).VideoTimed :=
  ⟨h, ⟨Nat.le_refl 0, h, (Vdp.reset_reg p 10).symm⟩, List.length_replicate, List.length_replicate⟩

/-- Settles O56: both resets are the construction `State.resetWith`, which meets both invariants. -/
theorem resetMeetsInvariants : Obligations.ResetMeetsInvariants :=
  ⟨⟨State.resetWith_memWf _ (Mem.wf_nil _), State.resetWith_videoTimed Cart.reset (by decide)⟩,
    fun s hrom hp => ⟨State.resetWith_memWf s.params hrom, State.resetWith_videoTimed s.cart hp⟩⟩

/-- Settles O42: at both resets the state is that of `State.resetWith`, but for the count of free values. -/
theorem resetValues : Obligations.ResetValues := by
  refine ⟨fun s hs => ?_, rfl, fun u => ⟨rfl, rfl⟩⟩
  obtain ⟨p, c, n, rfl⟩ : ∃ p c n, s = { State.resetWith p c with draws := n } := by
    rcases hs with rfl | ⟨u, rfl⟩
    · exact ⟨_, _, _, rfl⟩
    · exact ⟨_, _, _, rfl⟩
  exact ⟨rfl, rfl, rfl, rfl, rfl, rfl, rfl, rfl, rfl, rfl, fun k => ⟨rfl, rfl⟩, rfl, rfl, rfl, rfl,
    Vdp.reset_reg p, rfl, rfl, rfl, rfl, rfl, rfl, rfl, rfl, rfl, rfl, rfl, rfl, rfl⟩

end Sys2Proof.Machine
end

section
/-! The step of a running machine (R500): what the poll decides, and what follows it. -/

namespace Sys2Proof.Machine

/-! ### The poll and what follows it, case by case -/

section
variable {s : State} (hrun : s.Running)
include hrun

theorem step_of_running :
    step s =
      if s.interrupted then
        if s.im = .im1 then s.polled.acceptIM1.afterPoll
        else .next (s.polled.raise (.unsupportedInterruptMode s.pc [] s.cycles))
      else s.polled.afterPoll := by
  obtain ⟨hfault, hvalid⟩ := hrun
  unfold step State.cycle
  rw [hfault, hvalid, if_neg (by decide), if_neg (by decide)]

theorem step_of_not_interrupted (hi : s.interrupted = false) : step s = s.polled.afterPoll := by
  rw [step_of_running hrun, hi, if_neg (by decide)]

theorem step_of_interrupted_im1 (hi : s.interrupted = true) (hm : s.im = .im1) :
    step s = s.polled.acceptIM1.afterPoll := by
  rw [step_of_running hrun, if_pos hi, if_pos hm]

theorem step_of_interrupted_other (hi : s.interrupted = true) (hm : s.im ≠ .im1) :
    step s = .next (s.polled.raise (.unsupportedInterruptMode s.pc [] s.cycles)) := by
  rw [step_of_running hrun, if_pos hi, if_neg hm]

end

section
variable {u : State}

theorem State.afterPoll_of_halted (hh : u.halted = true) : u.afterPoll = .next u.haltedStep := if_pos hh

theorem State.afterPoll_of_instr {i : Instr} {rest : List Byte} (hh : u.halted = false)
    (hd : u.fetchDecode = .instr i rest) : u.afterPoll = exec i u := by
  rw [State.afterPoll, hh, if_neg (by decide), hd]

theorem State.afterPoll_of_unknown {bytes : List Byte} (hh : u.halted = false) (hd : u.fetchDecode = .unknown bytes) :
    u.afterPoll = .next (u.raise (.unknownOpcode u.pc bytes u.cycles)) := by
  rw [State.afterPoll, hh, if_neg (by decide), hd]

end

/-- R510: the three conditions of an accepted interrupt. -/
theorem State.interrupted_iff (s : State) :
    s.interrupted = true ↔ s.iff1 = true ∧ s.eiShadow = false ∧ s.polled.vdp.irq = true := by
  simp only [State.interrupted, Bool.and_eq_true, Bool.not_eq_true']
  tauto

/-! ### The statements -/

/-- Settles O35: without an interrupt the polled machine fetches at PC, after one at the handler's address. -/
theorem stepRunsDecoded : Obligations.StepRunsDecoded := by
  refine fun s i rest hrun => ⟨fun hi hh hd => ?_, fun hi hm hd => ⟨rfl, ?_⟩⟩
  · rw [step_of_not_interrupted hrun hi]
    exact State.afterPoll_of_instr (u := s.polled) hh hd
  · rw [step_of_interrupted_im1 hrun hi hm]
    exact State.afterPoll_of_instr (u := s.polled.acceptIM1) rfl hd

/-- Settles O36: the polled machine is halted as the machine was. -/
theorem haltedStep : Obligations.HaltedStep := fun s hrun hh hi =>
  (step_of_not_interrupted hrun hi).trans (State.afterPoll_of_halted (u := s.polled) hh)

theorem Vdp.acknowledge_eq (v : Vdp) :
    v.acknowledge = { v with
      vintPending := if v.vintEnable then false else v.vintPending
      hintPending := if v.hintEnable then false else v.hintPending } := by
  unfold Vdp.acknowledge
  cases v.vintEnable <;> cases v.hintEnable <;> simp

/-- Settles O37: field by field but for the pending flags (`Vdp.acknowledge_eq`). -/
theorem interruptAcknowledge : Obligations.InterruptAcknowledge := by
  intro s
  rw [← Vdp.acknowledge_eq]
  rfl

/-- Settles O38: the poll accepts on the three conditions of `State.interrupted_iff`, and then the mode decides. -/
theorem interruptAcceptance : Obligations.InterruptAcceptance := by
  refine fun s hrun => ⟨fun h => ?_, fun h1 h2 h3 hm => ?_, fun h1 h2 h3 hm => ?_⟩
  · refine step_of_not_interrupted hrun (Bool.eq_false_iff.2 fun hi => ?_)
    obtain ⟨h1, h2, h3⟩ := s.interrupted_iff.1 hi
    rw [h1, h2, h3] at h
    simp at h
  · exact step_of_interrupted_im1 hrun (s.interrupted_iff.2 ⟨h1, h2, h3⟩) hm
  · exact step_of_interrupted_other hrun (s.interrupted_iff.2 ⟨h1, h2, h3⟩) hm

/-- Settles O39: the polled machine fetches the bytes that the machine would. -/
theorem unknownOpcodeFault : Obligations.UnknownOpcodeFault := fun s _ hrun hh hi hd =>
  (step_of_not_interrupted hrun hi).trans (State.afterPoll_of_unknown (u := s.polled) hh hd)

end Sys2Proof.Machine
end

section
/-! The arithmetic helpers over unbounded numbers (42_alu8.md section 1, 43_alu16.md): the results as exact sums and
differences, and the overflow flag as signed overflow, for every width. -/

namespace Sys2Proof.Machine

/-! ### Results, for every width -/

section
variable {w : Nat}

/-- Two words are equal as their numbers are. -/
theorem beq_eq_decide_toNat (x y : BitVec w) : (x == y) = decide (x.toNat = y.toNat) := by
  rw [Bool.eq_iff_iff, beq_iff_eq, decide_eq_true_eq, BitVec.toNat_eq]

theorem toNat_carry (hw : 0 < w) (c : Bool) : (carry w c).toNat = c.toNat := by
  have h1 : 1 % 2 ^ w = 1 := Nat.mod_eq_of_lt (Nat.one_lt_two_pow hw.ne')
  cases c <;> simp [carry, h1]

/-- R260, R300: the sum with the carry, mod 2^w. -/
theorem toNat_add_add_carry (hw : 0 < w) (a b : BitVec w) (c : Bool) :
    (a + b + carry w c).toNat = (a.toNat + b.toNat + c.toNat) % 2 ^ w := by
  rw [BitVec.toNat_add, BitVec.toNat_add, toNat_carry hw, Nat.mod_add_mod]

/-- R261, R302: the difference is "implemented as `a + ~b + (1 - c)`". -/
theorem sub_sub_carry (a b : BitVec w) (c : Bool) : a - b - carry w c = a + ~~~b + carry w (!c) := by
  rw [BitVec.not_eq_neg_add]
  cases c
  case false => show a - b - 0 = a + (-b - 1) + 1; abel
  case true => show a - b - 1 = a + (-b - 1) + 0; abel

/-! ### Signed overflow, for every width -/

/-- A signed number within the range is its own balanced residue. -/
theorem bmod_two_pow_of_fits (hw : 1 < w) {n : Int} (h1 : -2 ^ (w - 1) ≤ n) (h2 : n < 2 ^ (w - 1)) :
    n.bmod (2 ^ w) = n := by
  have hpow : ((2 ^ w : Nat) : Int) = 2 * 2 ^ (w - 1) := by
    rw [Nat.cast_pow, Nat.cast_ofNat, mul_pow_sub_one (by omega)]
  exact Int.bmod_eq_of_le (by omega) (by omega)

theorem toInt_not_eq (hw : 1 < w) (b : BitVec w) : (~~~b).toInt = -b.toInt - 1 := by
  have h1 := b.le_toInt
  have h2 := b.toInt_lt
  have hpow : ((2 ^ w : Nat) : Int) = 2 ^ w := by push_cast; rfl
  have hb : b.toInt = (b.toNat : Int).bmod (2 ^ w) := BitVec.toInt_eq_toNat_bmod b
  calc (~~~b).toInt = (-1 - (b.toNat : Int)).bmod (2 ^ w) := by
        rw [BitVec.toInt_not, ← Int.add_bmod_right (-1 - (b.toNat : Int)), hpow]; ring_nf
    _ = (-1 - b.toInt).bmod (2 ^ w) := by rw [hb, Int.sub_bmod_bmod]
    _ = -1 - b.toInt := bmod_two_pow_of_fits hw (by omega) (by omega)
    _ = -b.toInt - 1 := by ring

theorem toInt_carry (hw : 1 < w) (c : Bool) : (carry w c).toInt = c.toNat := by
  have hpow : 2 ^ 2 ≤ 2 ^ w := Nat.pow_le_pow_right (by decide) hw
  have hc : c.toNat ≤ 1 := Bool.toNat_le c
  have hn := toNat_carry (by omega : 0 < w) c
  rw [BitVec.toInt_eq_toNat_of_lt (by omega), hn]

/-- The signs say that the sum does not fit: it has left the range by less than one turn, so the result has the sign that
the operands have not. -/
theorem msb_overflow_add_iff (hw : 1 < w) (a b : BitVec w) (c : Bool) :
    (a.msb = b.msb ∧ (a + b + carry w c).msb ≠ a.msb) ↔
      ¬ (-2 ^ (w - 1) ≤ a.toInt + b.toInt + c.toNat ∧ a.toInt + b.toInt + c.toNat < 2 ^ (w - 1)) := by
  have ha1 := a.le_toInt
  have ha2 := a.toInt_lt
  have hb1 := b.le_toInt
  have hb2 := b.toInt_lt
  have hc : c.toNat ≤ 1 := Bool.toNat_le c
  have hpow : ((2 ^ w : Nat) : Int) = 2 * 2 ^ (w - 1) := by
    rw [Nat.cast_pow, Nat.cast_ofNat, mul_pow_sub_one (by omega)]
  have hr : (a + b + carry w c).toInt = (a.toInt + b.toInt + c.toNat).bmod (2 ^ w) := by
    rw [BitVec.toInt_add, BitVec.toInt_add, toInt_carry hw, Int.bmod_add_bmod]
  simp only [BitVec.msb_eq_toInt, hr, ne_eq, decide_eq_decide]
  rcases lt_or_ge (a.toInt + b.toInt + c.toNat) (-2 ^ (w - 1)) with hlow | hlow
  · rw [← Int.add_bmod_right, hpow, bmod_two_pow_of_fits hw (by omega) (by omega)]
    omega
  rcases lt_or_ge (a.toInt + b.toInt + c.toNat) (2 ^ (w - 1)) with hhigh | hhigh
  · rw [bmod_two_pow_of_fits hw hlow hhigh]
    omega
  · rw [← Int.sub_bmod_right, hpow, bmod_two_pow_of_fits hw (by omega) (by omega)]
    omega

/-- Likewise for a difference, which is a sum with the complement (`sub_sub_carry`). -/
theorem msb_overflow_sub_iff (hw : 1 < w) (a b : BitVec w) (c : Bool) :
    (a.msb ≠ b.msb ∧ (a - b - carry w c).msb ≠ a.msb) ↔
      ¬ (-2 ^ (w - 1) ≤ a.toInt - b.toInt - c.toNat ∧ a.toInt - b.toInt - c.toNat < 2 ^ (w - 1)) := by
  have hsum : a.toInt + (~~~b).toInt + (!c).toNat = a.toInt - b.toInt - c.toNat := by
    rw [toInt_not_eq hw]
    cases c <;> simp <;> ring
  have hmsb : a.msb = (~~~b).msb ↔ a.msb ≠ b.msb := by
    have hpos : 0 < w := by omega
    rw [BitVec.msb_not]
    cases a.msb <;> cases b.msb <;> simp [hpos]
  rw [sub_sub_carry, ← hsum, ← msb_overflow_add_iff hw, hmsb]

end

/-! ### The flags -/

theorem decide_overflow_add (x y z : Bool) : ((x == y) && (z != x)) = decide (x = y ∧ z ≠ x) := by
  cases x <;> cases y <;> cases z <;> rfl

theorem decide_overflow_sub (x y z : Bool) : ((x != y) && (z != x)) = decide (x ≠ y ∧ z ≠ x) := by
  cases x <;> cases y <;> cases z <;> rfl

/-- R260, R300. -/
theorem flagsAre_sumFlags {w : Nat} (a b r : BitVec w) (h c : Bool) :
    FlagsAre (flagByte r.msb (r == 0) h ((a.msb == b.msb) && (r.msb != a.msb)) false c) r.msb
      (decide (r.toNat = 0)) h (decide (a.msb = b.msb ∧ r.msb ≠ a.msb)) false c := by
  rw [← decide_overflow_add, ← BitVec.toNat_zero (w := w), ← beq_eq_decide_toNat]
  exact flagsAre_flagByte _ _ _ _ _ _

/-- R261, R302. -/
theorem flagsAre_differenceFlags {w : Nat} (a b r : BitVec w) (h c : Bool) :
    FlagsAre (flagByte r.msb (r == 0) h ((a.msb != b.msb) && (r.msb != a.msb)) true c) r.msb
      (decide (r.toNat = 0)) h (decide (a.msb ≠ b.msb ∧ r.msb ≠ a.msb)) true c := by
  rw [← decide_overflow_sub, ← BitVec.toNat_zero (w := w), ← beq_eq_decide_toNat]
  exact flagsAre_flagByte _ _ _ _ _ _

theorem flagsAre_logic8 (a : Byte) (c : Bool) :
    FlagsAre (logic8 a c).2 a.msb (decide (a.toNat = 0)) c
      (decide (((List.range 8).filter fun k => a.getLsbD k).length % 2 = 0)) false false := by
  rw [← parity_eq_even_count, ← BitVec.toNat_zero (w := 8), ← beq_eq_decide_toNat]
  exact flagsAre_flagByte _ _ _ _ _ _

/-! ### The statements -/

/-- Settles O8: results by `toNat_add_add_carry` and `sub_sub_carry`, flags by those of the sum, the difference and the
logical operations. -/
theorem arithmeticHelpers : Obligations.ArithmeticHelpers := by
  refine ⟨fun a b c => ⟨⟨?add8, flagsAre_sumFlags a b _ _ _⟩, ⟨?sub8, flagsAre_differenceFlags a b _ _ _⟩,
    ⟨rfl, flagsAre_logic8 a c⟩, ?inc8, ?dec8⟩, fun a b c => ⟨⟨?add16, flagsAre_sumFlags a b _ _ _⟩,
    ⟨?sbc16, flagsAre_differenceFlags a b _ _ _⟩⟩⟩
  case add8 => exact toNat_add_add_carry (by decide) a b c
  case add16 => exact toNat_add_add_carry (by decide) a b c
  case sub8 =>
    show ((a - b - carry 8 c).toNat : Int) = _
    rw [sub_sub_carry, toNat_add_add_carry (by decide), BitVec.toNat_not]
    have hb := b.isLt
    cases c <;> simp <;> omega
  case sbc16 =>
    show ((a - b - carry 16 c).toNat : Int) = _
    rw [sub_sub_carry, toNat_add_add_carry (by decide), BitVec.toNat_not]
    have hb := b.isLt
    cases c <;> simp <;> omega
  case inc8 =>
    refine ⟨BitVec.toNat_add a 1, flagS_flagByte _ _ _ _ _ _, ?_, ?_, ?_, flagN_flagByte _ _ _ _ _ _⟩
    · exact (flagZ_flagByte _ _ _ _ _ _).trans (beq_eq_decide_toNat _ 0)
    · rw [← toNat_and_0x0F]; exact (flagH_flagByte _ _ _ _ _ _).trans (beq_eq_decide_toNat _ 0xF)
    · exact (flagPV_flagByte _ _ _ _ _ _).trans (beq_eq_decide_toNat _ 0x7F)
  case dec8 =>
    refine ⟨?_, flagS_flagByte _ _ _ _ _ _, ?_, ?_, ?_, flagN_flagByte _ _ _ _ _ _⟩
    · show (a - 1).toNat = (a.toNat + 255) % 256
      rw [BitVec.toNat_sub, Nat.add_comm]; rfl
    · exact (flagZ_flagByte _ _ _ _ _ _).trans (beq_eq_decide_toNat _ 0)
    · rw [← toNat_and_0x0F]; exact (flagH_flagByte _ _ _ _ _ _).trans (beq_eq_decide_toNat _ 0)
    · exact (flagPV_flagByte _ _ _ _ _ _).trans (beq_eq_decide_toNat _ 0x80)

/-- Settles O11: PV is the comparison of signs, which `msb_overflow_add_iff` and `msb_overflow_sub_iff` read as signed
overflow. -/
theorem overflowFlagIsSignedOverflow : Obligations.OverflowFlagIsSignedOverflow := by
  have hadd {w : Nat} (hw : 1 < w) (a b : BitVec w) (c : Bool) (s z h n k : Bool) :
      flagPV (flagByte s z h ((a.msb == b.msb) && ((a + b + carry w c).msb != a.msb)) n k) = true ↔
        ¬ (-2 ^ (w - 1) ≤ a.toInt + b.toInt + c.toNat ∧ a.toInt + b.toInt + c.toNat < 2 ^ (w - 1)) := by
    rw [flagPV_flagByte, decide_overflow_add, decide_eq_true_eq, msb_overflow_add_iff hw]
  have hsub {w : Nat} (hw : 1 < w) (a b : BitVec w) (c : Bool) (s z h n k : Bool) :
      flagPV (flagByte s z h ((a.msb != b.msb) && ((a - b - carry w c).msb != a.msb)) n k) = true ↔
        ¬ (-2 ^ (w - 1) ≤ a.toInt - b.toInt - c.toNat ∧ a.toInt - b.toInt - c.toNat < 2 ^ (w - 1)) := by
    rw [flagPV_flagByte, decide_overflow_sub, decide_eq_true_eq, msb_overflow_sub_iff hw]
  refine ⟨fun a b c => ⟨?_, ?_⟩, fun a b c => ⟨?_, ?_⟩⟩
  · exact (hadd (by decide) a b c _ _ _ _ _).trans (by omega)
  · exact (hsub (by decide) a b c _ _ _ _ _).trans (by omega)
  · exact (hadd (by decide) a b c _ _ _ _ _).trans (by omega)
  · exact (hsub (by decide) a b c _ _ _ _ _).trans (by omega)

/-! ### DAA after a sum or a difference of two two-digit decimal numbers -/

/-- The two decimal digits of a number, one in each half of a byte. -/
def bcdByte (n : Nat) : Byte := BitVec.ofNat 8 (n / 10 % 10 * 16 + n % 10)

theorem toNat_bcdByte (n : Nat) : (bcdByte n).toNat = n / 10 % 10 * 16 + n % 10 := by
  rw [bcdByte, BitVec.toNat_ofNat, Nat.mod_eq_of_lt (by omega)]

section
variable {p q r s : Nat} (hp : p ≤ 9) (hq : q ≤ 9) (hr : r ≤ 9) (hs : s ≤ 9)
include hp hq hr hs

/-- A correction by 6 makes a carry at ten in the low digit one at sixteen, a correction by 96 in the high digit. -/
theorem decimal_sum :
    ((p * 16 + q + (r * 16 + s)) % 256 +
        ((if q + s > 15 ∨ (p * 16 + q + (r * 16 + s)) % 256 % 16 > 9 then 6 else 0) +
          (if p * 16 + q + (r * 16 + s) > 255 ∨ (p * 16 + q + (r * 16 + s)) % 256 > 153 then 96 else 0))) % 256 =
      (10 * p + q + (10 * r + s)) / 10 % 10 * 16 + (10 * p + q + (10 * r + s)) % 10 := by
  split_ifs <;> omega

theorem decimal_carry :
    p * 16 + q + (r * 16 + s) > 255 ∨ (p * 16 + q + (r * 16 + s)) % 256 > 153 ↔
      100 ≤ 10 * p + q + (10 * r + s) := by
  omega

/-- Likewise for the borrows. -/
theorem decimal_difference :
    (256 - ((if q < s ∨ (256 + (p * 16 + q) - (r * 16 + s)) % 256 % 16 > 9 then 6 else 0) +
          (if p * 16 + q < r * 16 + s ∨ (256 + (p * 16 + q) - (r * 16 + s)) % 256 > 153 then 96 else 0)) +
        (256 + (p * 16 + q) - (r * 16 + s)) % 256) % 256 =
      (100 + (10 * p + q) - (10 * r + s)) / 10 % 10 * 16 + (100 + (10 * p + q) - (10 * r + s)) % 10 := by
  split_ifs <;> omega

theorem decimal_borrow :
    p * 16 + q < r * 16 + s ∨ (256 + (p * 16 + q) - (r * 16 + s)) % 256 > 153 ↔ 10 * p + q < 10 * r + s := by
  omega

end

/-- A byte that holds the two decimal digits `p` and `q` of a number. -/
def DigitsOf (n : Nat) (v : Byte) (p q : Nat) : Prop := p ≤ 9 ∧ q ≤ 9 ∧ n = 10 * p + q ∧ v.toNat = p * 16 + q

theorem digitsOf_bcdByte (x : Fin 100) : DigitsOf x.val (bcdByte x.val) (x.val / 10) (x.val % 10) := by
  have hx := x.isLt
  exact ⟨by omega, by omega, by omega, by rw [toNat_bcdByte]; omega⟩

theorem toNat_daaCorrection (p q : Prop) [Decidable p] [Decidable q] :
    ((if p then 0x06 else 0 : Byte) ||| (if q then 0x60 else 0)).toNat =
      (if p then 6 else 0) + (if q then 96 else 0) := by
  by_cases hp : p <;> by_cases hq : q <;> simp only [hp, hq, if_true, if_false] <;> rfl

section
variable (a : Byte) (h c : Bool)

theorem toNat_daaResult_sum :
    (daaResult a false h c).1.toNat =
      (a.toNat + ((if h = true ∨ a.toNat % 16 > 9 then 6 else 0) + (if c = true ∨ a.toNat > 0x99 then 96 else 0))) %
        256 := by
  rw [daaResult_eq, ← toNat_daaCorrection]
  exact BitVec.toNat_add _ _

theorem toNat_daaResult_difference :
    (daaResult a true h c).1.toNat =
      (256 - ((if h = true ∨ a.toNat % 16 > 9 then 6 else 0) + (if c = true ∨ a.toNat > 0x99 then 96 else 0)) +
        a.toNat) % 256 := by
  rw [daaResult_eq, ← toNat_daaCorrection]
  exact BitVec.toNat_sub _ _

theorem flagC_daaResult (n : Bool) : flagC (daaResult a n h c).2 = decide (c = true ∨ a.toNat > 0x99) := by
  rw [daaResult_eq]
  exact flagC_flagByte _ _ _ _ _ _

end

section
variable {n m p q r s : Nat} {x y : Byte} (hx : DigitsOf n x p q) (hy : DigitsOf m y r s)
include hx hy

/-- The flags of the sum say which digit carried at sixteen; the corrections are those of `decimal_sum`. -/
theorem daa_after_sum :
    (daaResult (add8 x y false).1 false (flagH (add8 x y false).2) (flagC (add8 x y false).2)).1 = bcdByte (n + m) ∧
      flagC (daaResult (add8 x y false).1 false (flagH (add8 x y false).2) (flagC (add8 x y false).2)).2 =
        decide (100 ≤ n + m) := by
  obtain ⟨hp, hq, hn, hX⟩ := hx
  obtain ⟨hr, hs, hm, hY⟩ := hy
  have hsum : (add8 x y false).1.toNat = (p * 16 + q + (r * 16 + s)) % 256 := by
    rw [← hX, ← hY]; exact toNat_add_add_carry (by decide) x y false
  have hH : flagH (add8 x y false).2 = decide (q + s > 15) := by
    refine (flagH_flagByte _ _ _ _ _ _).trans (decide_eq_decide.2 ?_)
    rw [hX, hY, Bool.toNat_false]; omega
  have hC : flagC (add8 x y false).2 = decide (p * 16 + q + (r * 16 + s) > 255) := by
    rw [← hX, ← hY]; exact flagC_flagByte _ _ _ _ _ _
  constructor
  · apply BitVec.eq_of_toNat_eq
    simp only [toNat_daaResult_sum, toNat_bcdByte, hsum, hH, hC, hn, hm, decide_eq_true_eq]
    exact decimal_sum hp hq hr hs
  · simp only [flagC_daaResult, hsum, hC, hn, hm, decide_eq_true_eq, decide_eq_decide]
    exact decimal_carry hp hq hr hs

/-- Likewise after a difference, by `decimal_difference`. -/
theorem daa_after_difference :
    (daaResult (sub8 x y false).1 true (flagH (sub8 x y false).2) (flagC (sub8 x y false).2)).1 =
        bcdByte (100 + n - m) ∧
      flagC (daaResult (sub8 x y false).1 true (flagH (sub8 x y false).2) (flagC (sub8 x y false).2)).2 =
        decide (n < m) := by
  obtain ⟨hp, hq, hn, hX⟩ := hx
  obtain ⟨hr, hs, hm, hY⟩ := hy
  have hdif : (sub8 x y false).1.toNat = (256 + (p * 16 + q) - (r * 16 + s)) % 256 := by
    have hsub : (sub8 x y false).1 = x - y := BitVec.sub_zero _
    rw [hsub, BitVec.toNat_sub, hX, hY]; omega
  have hH : flagH (sub8 x y false).2 = decide (q < s) := by
    refine (flagH_flagByte _ _ _ _ _ _).trans (decide_eq_decide.2 ?_)
    rw [hX, hY, Bool.toNat_false]; omega
  have hC : flagC (sub8 x y false).2 = decide (p * 16 + q < r * 16 + s) := by
    rw [← hX, ← hY]; exact flagC_flagByte _ _ _ _ _ _
  constructor
  · apply BitVec.eq_of_toNat_eq
    simp only [toNat_daaResult_difference, toNat_bcdByte, hdif, hH, hC, hn, hm, decide_eq_true_eq]
    exact decimal_difference hp hq hr hs
  · simp only [flagC_daaResult, hdif, hC, hn, hm, decide_eq_true_eq, decide_eq_decide]
    exact decimal_borrow hp hq hr hs

end

/-- Settles O30: the two numbers by their digits, then `daa_after_sum` and `daa_after_difference`. -/
theorem daaIsDecimalAdjust : Obligations.DaaIsDecimalAdjust := fun x y =>
  ⟨daa_after_sum (digitsOf_bcdByte x) (digitsOf_bcdByte y), daa_after_difference (digitsOf_bcdByte x) (digitsOf_bcdByte y)⟩

end Sys2Proof.Machine
end

section
/-! Memory through the mapper (20_memory.md sections 2 and 3), region by region: what a read finds, what a write changes,
and what is read after a write. -/

namespace Sys2Proof.Machine

/-- Settles O31: one lemma of `Mapper.read` for each region. -/
theorem memoryReadMap : Obligations.MemoryReadMap := by
  refine fun s a => ⟨fun h => ?low, fun h1 h2 => ?slot0, fun h1 h2 => ?slot1, fun h1 h2 hr => ?slot2Rom,
    fun h1 h2 hr => ?slot2Ram, fun h => ?ram, ?word⟩
  case low => exact Mapper.read_low _ _ h
  case slot0 => exact Mapper.read_slot0 _ _ h1 h2
  case slot1 => exact Mapper.read_slot1 _ _ h1 h2
  case slot2Rom => exact (Mapper.read_slot2 _ _ h1 h2).trans (if_neg (Bool.eq_false_iff.1 hr))
  case slot2Ram => exact (Mapper.read_slot2 _ _ h1 h2).trans (if_pos hr)
  case ram => exact Mapper.read_ram _ _ h
  case word =>
    have hlo := (s.read a).isLt
    rw [State.read16, join, BitVec.toNat_append, ← Nat.shiftLeft_add_eq_or_of_lt hlo, Nat.shiftLeft_eq, Nat.add_comm]

/-! ### Writes -/

/-- A write is that of the mapper; so it leaves the state where it leaves the mapper. -/
theorem State.write_eq_self {s : State} {a : Word} {v : Byte} (h : s.mem.write a v = s.mem) : s.write a v = s := by
  rw [State.write, h]

/-- R107: a selector's address takes the byte as its number. -/
theorem Mapper.select_eq (m : Mapper) (a : Word) (v : Byte) :
    m.select a v = { m with
      ctl := if a.toNat = 0xFFFC then v else m.ctl
      n0 := if a.toNat = 0xFFFD then v else m.n0
      n1 := if a.toNat = 0xFFFE then v else m.n1
      n2 := if a.toNat = 0xFFFF then v else m.n2 } := by
  have key : ∀ w : Word, a = w ↔ a.toNat = w.toNat := fun w => BitVec.toNat_eq
  have hctl := Mapper.select_ctl m a v
  have hn0 := Mapper.select_n0 m a v
  have hn1 := Mapper.select_n1 m a v
  have hn2 := Mapper.select_n2 m a v
  simp only [key] at hctl hn0 hn1 hn2
  calc m.select a v
      = { m with
          ctl := (m.select a v).ctl, n0 := (m.select a v).n0
          n1 := (m.select a v).n1, n2 := (m.select a v).n2 } := by
        rw [← Mapper.select_sysRam m a v, ← Mapper.select_cartRam0 m a v, ← Mapper.select_cartRam1 m a v]
    _ = _ := by rw [hctl, hn0, hn1, hn2]; rfl

/-- Settles O32: one lemma of `Mapper.write` for each region. -/
theorem memoryWriteEffect : Obligations.MemoryWriteEffect := by
  refine fun s a v => ⟨fun h => ?rom, fun h1 h2 hr => ?disabled, fun h1 h2 hr => ?cart, fun h => ?ram, fun w => rfl⟩
  case rom => exact State.write_eq_self (Mapper.write_rom h _ v)
  case disabled => exact State.write_eq_self (Mapper.write_disabled h2 hr v)
  case cart => rw [State.write, Mapper.write_cart h1 h2 hr]; rfl
  case ram => rw [State.write, Mapper.write_ram h, Mapper.select_eq]

/-! ### Reads after a write -/

/-- A write in slot 2 goes to the selected page or nowhere, so the other page stays. -/
theorem Mapper.write_cartRam1 {m : Mapper} {a : Word} (h1 : 0x8000 ≤ a.toNat) (h2 : a.toNat < 0xC000)
    (hp : m.ramPage = false) (v : Byte) : (m.write a v).cartRam1 = m.cartRam1 := by
  cases hr : m.ramEnable with
  | false => rw [Mapper.write_disabled h2 hr]
  | true => rw [Mapper.write_cart h1 h2 hr, Mapper.writeCart, hp]; rfl

theorem Mapper.write_cartRam0 {m : Mapper} {a : Word} (h1 : 0x8000 ≤ a.toNat) (h2 : a.toNat < 0xC000)
    (hp : m.ramPage = true) (v : Byte) : (m.write a v).cartRam0 = m.cartRam0 := by
  cases hr : m.ramEnable with
  | false => rw [Mapper.write_disabled h2 hr]
  | true => rw [Mapper.write_cart h1 h2 hr, Mapper.writeCart, hp]; rfl

/-- A write outside slot 2 goes to neither page. -/
theorem Mapper.write_cartRam_outside {m : Mapper} {a : Word} (h : a.toNat < 0x8000 ∨ 0xC000 ≤ a.toNat) (v : Byte) :
    (m.write a v).cartRam0 = m.cartRam0 ∧ (m.write a v).cartRam1 = m.cartRam1 := by
  rcases h with h | h
  · rw [Mapper.write_rom h]; exact ⟨rfl, rfl⟩
  · rw [Mapper.write_ram h]; exact ⟨Mapper.select_cartRam0 _ _ _, Mapper.select_cartRam1 _ _ _⟩

theorem sameRamByte_of {a b : Word} (ha : 0xC000 ≤ a.toNat) (hb : 0xC000 ≤ b.toNat)
    (h : a.toNat % 0x2000 = b.toNat % 0x2000) : sameRamByte a b = true := by
  simp [sameRamByte, ha, hb, h]

/-- Settles O33: RAM reads back (`Mapper.read_write_ram`, `Mapper.read_write_cart`), an ignored write changes nothing. -/
theorem readAfterWrite : Obligations.ReadAfterWrite := by
  intro s a b v hs
  obtain ⟨-, hm, -⟩ := s.memWf_iff.1 hs
  refine ⟨fun h => ?same, fun ha hb h => ?mirror, fun h1 h2 hr => ?cart, fun h => ?rom, fun h1 h2 hr => ?disabled,
    fun h1 h2 hp => ?page1, fun h1 h2 hp => ?page0, fun h => ?outside⟩
  case same => exact Mapper.read_write_ram hm (sameRamByte_of h h rfl) v
  case mirror => exact Mapper.read_write_ram hm (sameRamByte_of ha hb h) v
  case cart => exact Mapper.read_write_cart hm h1 h2 hr v
  case rom => rw [State.write_eq_self (Mapper.write_rom h _ v)]
  case disabled => rw [State.write_eq_self (Mapper.write_disabled h2 hr v)]
  case page1 => exact Mapper.write_cartRam1 h1 h2 hp v
  case page0 => exact Mapper.write_cartRam0 h1 h2 hp v
  case outside => exact Mapper.write_cartRam_outside h v

end Sys2Proof.Machine
end

section
/-! 16-bit ADD, ADC and SBC (43_alu16.md), the loads of I and R (40_load8.md), RLD and RRD (44_rotate_shift.md), the bit
instructions (45_bit.md) and CPU control (49_cpu_control.md): one lemma for the next state of each operation. -/

namespace Sys2Proof.Machine

/-! ### 16-bit ADD, ADC and SBC -/

theorem addHL_eq (p : Pair) (s : State) :
    addHL p s =
      .next { s.advanced 1 1 11 with
        regs := { s.regs.setHL (add16 s.regs.hl (s.regs.getPair p) false).1 with
          f := mergeF maskHNC maskX s.regs.f (add16 s.regs.hl (s.regs.getPair p) false).2 s.drawn }
        draws := s.draws + 1 } := by
  simp only [addHL, runFixed_eq, State.fetched_mapRegs_writeF_tick, State.fetched_regs, Regs.setHL_f]

theorem addIdx_eq (x : Idx) (p : IdxPair) (s : State) :
    addIdx x p s =
      .next { s.advanced 2 2 15 with
        regs := { s.regs.setIdx x (add16 (s.regs.getIdx x) (s.regs.getIdxPair x p) false).1 with
          f := mergeF maskHNC maskX s.regs.f (add16 (s.regs.getIdx x) (s.regs.getIdxPair x p) false).2 s.drawn }
        draws := s.draws + 1 } := by
  simp only [addIdx, runFixed_eq, State.fetched_mapRegs_writeF_tick, State.fetched_regs, Regs.setIdx_f]

theorem adcHL_eq (p : Pair) (s : State) :
    adcHL p s =
      .next { s.advanced 2 2 15 with
        regs := { s.regs.setHL (add16 s.regs.hl (s.regs.getPair p) (flagC s.regs.f)).1 with
          f := mergeF maskAll maskX s.regs.f (add16 s.regs.hl (s.regs.getPair p) (flagC s.regs.f)).2 s.drawn }
        draws := s.draws + 1 } := by
  simp only [adcHL, runFixed_eq, State.fetched_mapRegs_writeF_tick, State.fetched_regs, Regs.setHL_f]

theorem sbcHL_eq (p : Pair) (s : State) :
    sbcHL p s =
      .next { s.advanced 2 2 15 with
        regs := { s.regs.setHL (sbc16 s.regs.hl (s.regs.getPair p) (flagC s.regs.f)).1 with
          f := mergeF maskAll maskX s.regs.f (sbc16 s.regs.hl (s.regs.getPair p) (flagC s.regs.f)).2 s.drawn }
        draws := s.draws + 1 } := by
  simp only [sbcHL, runFixed_eq, State.fetched_mapRegs_writeF_tick, State.fetched_regs, Regs.setHL_f]

/-- R303, R304: ADD keeps S, Z and PV, and its helper has N = 0. -/
theorem flagsAre_mergeF_add16 (old drawn : Byte) (a b : Word) (c : Bool) :
    FlagsAre (mergeF maskHNC maskX old (add16 a b c).2 drawn)
      (flagS old) (flagZ old) (flagH (add16 a b c).2) (flagPV old) false (flagC (add16 a b c).2) := by
  have hN : flagN (add16 a b c).2 = false := flagN_flagByte _ _ _ _ _ _
  simpa only [hN] using flagsAre_mergeF_hnc old (add16 a b c).2 drawn

/-- Settles O12: each operation's lemma gives the next state, the lemma of its mask the flags. -/
theorem addAndSubtractWord : Obligations.AddAndSubtractWord := by
  refine fun i s => ⟨fun p h => ?addHL, fun x p h => ?addIdx, fun p h => ?adcHL, fun p h => ?sbcHL⟩
  case addHL =>
    exact ⟨encode_of_op h, _, flagsAre_mergeF_add16 s.regs.f s.drawn _ _ _, (exec_of_op h s).trans (addHL_eq p s)⟩
  case addIdx =>
    have hexec := (exec_of_op h s).trans (addIdx_eq x p s)
    cases p <;> exact ⟨encode_of_op h, _, flagsAre_mergeF_add16 s.regs.f s.drawn _ _ _, hexec⟩
  case adcHL =>
    exact ⟨encode_of_op h, _, sameFlags_mergeF_all s.regs.f _ s.drawn, (exec_of_op h s).trans (adcHL_eq p s)⟩
  case sbcHL =>
    exact ⟨encode_of_op h, _, sameFlags_mergeF_all s.regs.f _ s.drawn, (exec_of_op h s).trans (sbcHL_eq p s)⟩

/-! ### The loads of I and R -/

/-- R214, R215: S and Z of the value, H = N = 0, PV = IFF2, C kept. -/
theorem flagsAre_mergeF_loadFlags (old drawn v : Byte) (iff2 : Bool) :
    FlagsAre (mergeF maskKeepC maskX old (loadFlags v iff2) drawn) v.msb (v == 0) false iff2 false (flagC old) := by
  simpa only [loadFlags, flagS_flagByte, flagZ_flagByte, flagH_flagByte, flagPV_flagByte, flagN_flagByte]
    using flagsAre_mergeF_keepC old (loadFlags v iff2) drawn

theorem ldAI_eq (s : State) :
    ldAI s =
      .next { s.advanced 2 2 9 with
        regs := { s.regs with
          a := s.i, f := mergeF maskKeepC maskX s.regs.f (loadFlags s.i s.iff2) s.drawn }
        draws := s.draws + 1 } := by
  rw [ldAI, runFixed_eq, loadAFlags, State.fetched_mapRegs_writeF_tick, Regs.set_a, State.fetched_i, State.fetched_iff2]

/-- R215 under `R_READ_EXACT`: R with the two fetches of the instruction counted. -/
theorem ldAR_exact_eq {s : State} (h : s.params.rReadExact = true) :
    ldAR s =
      .next { s.advanced 2 2 9 with
        regs := { s.regs with
          a := countR s.r 2, f := mergeF maskKeepC maskX s.regs.f (loadFlags (countR s.r 2) s.iff2) s.drawn }
        draws := s.draws + 1 } := by
  rw [ldAR, runFixed_eq, State.fetched_params, if_pos h, loadAFlags, State.fetched_mapRegs_writeF_tick, Regs.set_a,
    State.fetched_r, State.fetched_iff2]

/-- D5: else R's top bit with the low bits of one free value, X1 and X2 of a second. -/
theorem ldAR_drawn_eq {s : State} (h : ¬ s.params.rReadExact = true) :
    ldAR s =
      .next { s.advanced 2 2 9 with
        regs := { s.regs with
          a := (countR s.r 2 &&& 0x80) ||| (s.drawn &&& 0x7F)
          f := mergeF maskKeepC maskX s.regs.f
            (loadFlags ((countR s.r 2 &&& 0x80) ||| (s.drawn &&& 0x7F)) s.iff2) s.drew.drawn }
        draws := s.draws + 2 } := by
  rw [ldAR, runFixed_eq, State.fetched_params, if_neg h]
  rfl

theorem msb_topBit_or (r x : Byte) : ((r &&& 0x80) ||| (x &&& 0x7F)).msb = r.msb := by
  simp [BitVec.msb_eq_getLsbD_last]

/-- Settles O3: I and R go to A with the flags of `flagsAre_mergeF_loadFlags`; the parameter selects what LD A,R reads. -/
theorem interruptAndRefreshLoads : Obligations.InterruptAndRefreshLoads := by
  refine fun i s => ⟨fun h => ?ldAI, fun h => ?ldAR, fun h => ?ldIA, fun h => ?ldRA⟩
  case ldAI =>
    exact ⟨encode_of_op h, _, flagsAre_mergeF_loadFlags s.regs.f s.drawn s.i s.iff2,
      (exec_of_op h s).trans (ldAI_eq s)⟩
  case ldAR =>
    refine ⟨encode_of_op h, ?_⟩
    by_cases hexact : s.params.rReadExact = true
    · exact ⟨_, _, _, fun _ => rfl, countR_msb s.r 2, flagsAre_mergeF_loadFlags s.regs.f s.drawn _ s.iff2,
        (exec_of_op h s).trans (ldAR_exact_eq hexact)⟩
    · exact ⟨_, _, _, fun he => absurd he hexact, (msb_topBit_or _ _).trans (countR_msb s.r 2),
        flagsAre_mergeF_loadFlags s.regs.f s.drew.drawn _ s.iff2, (exec_of_op h s).trans (ldAR_drawn_eq hexact)⟩
  case ldIA => exact ⟨encode_of_op h, exec_of_op h s⟩
  case ldRA => exact ⟨encode_of_op h, exec_of_op h s⟩

/-! ### RLD and RRD -/

/-- S, Z and PV of a byte, H = N = 0, C kept (R333, R334, R401). -/
theorem flagsAre_mergeF_byteFlags (old drawn v : Byte) :
    FlagsAre (mergeF maskKeepC maskX old (byteFlags v) drawn) v.msb (v == 0) false (parity v) false (flagC old) := by
  simpa only [byteFlags, flagS_flagByte, flagZ_flagByte, flagH_flagByte, flagPV_flagByte, flagN_flagByte]
    using flagsAre_mergeF_keepC old (byteFlags v) drawn

theorem State.fetched_digitRotate_tick (s : State) (len m1 cyc : Nat) (mem a : Byte) :
    (digitRotate mem a (s.fetched len m1)).tick cyc =
      { s.advanced len m1 cyc with
        regs := { s.regs with a := a, f := mergeF maskKeepC maskX s.regs.f (byteFlags a) s.drawn }
        mem := s.mem.write s.regs.hl mem
        draws := s.draws + 1 } := rfl

/-- A byte is two digits where its low and its high four bits are theirs. -/
theorem eq_append_digits {v : Byte} {x y : BitVec 4} (hlow : ∀ k < 4, v.getLsbD k = y.getLsbD k)
    (hhigh : ∀ k < 4, v.getLsbD (4 + k) = x.getLsbD k) : v = x ++ y := by
  apply BitVec.eq_of_getLsbD_eq
  intro k hk
  rw [BitVec.getLsbD_append]
  by_cases h4 : k < 4
  · rw [if_pos h4, hlow k h4]
  · rw [if_neg h4, ← hhigh (k - 4) (by omega), Nat.add_sub_cancel' (by omega)]

section
variable (a m : Byte)

theorem highDigit_or_highDigit : ((a &&& 0xF0) ||| (m >>> 4) : Byte) = a.extractLsb' 4 4 ++ m.extractLsb' 4 4 := by
  refine eq_append_digits (fun k hk => ?_) (fun k hk => ?_)
  · interval_cases k <;> simp
  · interval_cases k <;> simp

theorem highDigit_or_lowDigit : ((a &&& 0xF0) ||| (m &&& 0x0F) : Byte) = a.extractLsb' 4 4 ++ m.extractLsb' 0 4 := by
  refine eq_append_digits (fun k hk => ?_) (fun k hk => ?_)
  · interval_cases k <;> simp
  · interval_cases k <;> simp

theorem lowDigit_or_lowDigit : ((m <<< 4) ||| (a &&& 0x0F) : Byte) = m.extractLsb' 0 4 ++ a.extractLsb' 0 4 := by
  refine eq_append_digits (fun k hk => ?_) (fun k hk => ?_)
  · interval_cases k <;> simp
  · interval_cases k <;> simp

theorem lowDigit_or_highDigit : (((a &&& 0x0F) <<< 4) ||| (m >>> 4) : Byte) = a.extractLsb' 0 4 ++ m.extractLsb' 4 4 := by
  refine eq_append_digits (fun k hk => ?_) (fun k hk => ?_)
  · interval_cases k <;> simp
  · interval_cases k <;> simp

end

/-- What RLD and RRD share: A takes `a`, the byte at HL takes `m`, and the flags are those of A. -/
theorem digitRotate_completes {s : State} {a m : Byte} {res : Result}
    (h : res = .next ((digitRotate m a (s.fetched 2 2)).tick 18)) :
    ∃ f, FlagsAre f a.msb (a == 0) false (parity a) false (flagC s.regs.f) ∧
      res = .next { s.advanced 2 2 18 with
        regs := { s.regs with a := a, f := f }, mem := s.mem.write s.regs.hl m, draws := s.draws + 1 } :=
  ⟨_, flagsAre_mergeF_byteFlags s.regs.f s.drawn a, h⟩

theorem rld_eq (s : State) :
    rld s = .next ((digitRotate ((s.read s.regs.hl).extractLsb' 0 4 ++ s.regs.a.extractLsb' 0 4)
      (s.regs.a.extractLsb' 4 4 ++ (s.read s.regs.hl).extractLsb' 4 4) (s.fetched 2 2)).tick 18) := by
  rw [← lowDigit_or_lowDigit, ← highDigit_or_highDigit]
  rfl

theorem rrd_eq (s : State) :
    rrd s = .next ((digitRotate (s.regs.a.extractLsb' 0 4 ++ (s.read s.regs.hl).extractLsb' 4 4)
      (s.regs.a.extractLsb' 4 4 ++ (s.read s.regs.hl).extractLsb' 0 4) (s.fetched 2 2)).tick 18) := by
  rw [← lowDigit_or_highDigit, ← highDigit_or_lowDigit]
  rfl

/-- Settles O16: the digits of `rld_eq` and `rrd_eq`, with what the two share. -/
theorem digitRotates : Obligations.DigitRotates := by
  refine fun i s => ⟨fun h => ?rld, fun h => ?rrd⟩
  case rld => exact ⟨encode_of_op h, digitRotate_completes ((exec_of_op h s).trans (rld_eq s))⟩
  case rrd => exact ⟨encode_of_op h, digitRotate_completes ((exec_of_op h s).trans (rrd_eq s))⟩

/-! ### BIT, RES and SET -/

/-- What the forms of BIT share: the byte tested selects Z, and nothing but F changes. -/
theorem bitFlags_completes {s : State} {b : BitVec 3} {v : Byte} {len m1 cyc : Nat} {res : Result}
    (h : res = .next ((bitFlags b v (s.fetched len m1)).tick cyc)) :
    ∃ f, flagZ f = !v.getLsbD b.toNat ∧ flagH f = true ∧ flagN f = false ∧ flagC f = flagC s.regs.f ∧
      res = .next { s.advanced len m1 cyc with regs := { s.regs with f := f }, draws := s.draws + 1 } := by
  obtain ⟨hZ, hH, hN, hC⟩ := mergeF_bit s.regs.f (flagByte false (!v.getLsbD b.toNat) true false false false) s.drawn
  rw [flagZ_flagByte] at hZ
  rw [flagH_flagByte] at hH
  rw [flagN_flagByte] at hN
  exact ⟨_, hZ, hH, hN, hC, h⟩

/-- Settles O17: each form is `bitFlags` of its operand. -/
theorem bitTest : Obligations.BitTest := by
  refine fun i s b => ⟨fun r h => ?reg, fun h => ?atHL, fun x d z h => ?atIdx⟩
  case reg => exact ⟨encode_of_op h, bitFlags_completes (exec_of_op h s)⟩
  case atHL => exact ⟨encode_of_op h, bitFlags_completes (exec_of_op h s)⟩
  case atIdx => exact ⟨encode_of_op h, bitFlags_completes (exec_of_op h s)⟩

theorem getLsbD_oneBit (b : BitVec 3) (k : Nat) (hk : k < 8) : (oneBit b).getLsbD k = decide (k = b.toNat) := by
  have hb := b.isLt
  rw [oneBit, BitVec.getLsbD_shiftLeft, BitVec.getLsbD_one]
  by_cases h : k = b.toNat
  · simp [h, hb]
  · simp only [h, hk, decide_true, decide_false, Bool.true_and, Bool.and_eq_false_iff, Bool.not_eq_false',
      decide_eq_true_eq, decide_eq_false_iff_not]
    omega

/-- R351: RES clears the bit and keeps the others. -/
theorem getLsbD_and_not_oneBit (v : Byte) (b : BitVec 3) (k : Nat) (hk : k < 8) :
    (v &&& ~~~oneBit b).getLsbD k = if k = b.toNat then false else v.getLsbD k := by
  rw [BitVec.getLsbD_and, BitVec.getLsbD_not, getLsbD_oneBit b k hk]
  by_cases h : k = b.toNat <;> simp [h, hk]

/-- R352: SET sets it. -/
theorem getLsbD_or_oneBit (v : Byte) (b : BitVec 3) (k : Nat) (hk : k < 8) :
    (v ||| oneBit b).getLsbD k = if k = b.toNat then true else v.getLsbD k := by
  rw [BitVec.getLsbD_or, getLsbD_oneBit b k hk]
  by_cases h : k = b.toNat <;> simp [h]

/-- Settles O18: RES and SET store the operand with the one bit changed; the form of the operand selects the bytes, the
store, the length and the T-states. -/
theorem bitResetAndSet : Obligations.BitResetAndSet := by
  intro i s b m one h
  cases one with
  | false =>
    have hexec : exec i s = resBit b m s := exec_of_op h s
    have hbits := getLsbD_and_not_oneBit (s.readLoc m) b
    cases m <;> exact ⟨encode_of_op h, _, hbits, hexec⟩
  | true =>
    have hexec : exec i s = setBit b m s := exec_of_op h s
    have hbits := getLsbD_or_oneBit (s.readLoc m) b
    cases m <;> exact ⟨encode_of_op h, _, hbits, hexec⟩

/-! ### CPU control -/

/-- Settles O28: each operation changes its own fields of the fetched state. -/
theorem cpuControl : Obligations.CpuControl := by
  refine fun i s => ⟨fun h => ?nop, fun h => ?halt, fun h => ?di, fun h => ?ei, fun m h => ?im⟩
  case nop => exact ⟨encode_of_op h, exec_of_op h s⟩
  case halt => exact ⟨encode_of_op h, exec_of_op h s⟩
  case di => exact ⟨encode_of_op h, exec_of_op h s⟩
  case ei =>
    have hshadow : (s.params.eiShadow || s.eiShadow) = if s.params.eiShadow then true else s.eiShadow := by
      cases s.params.eiShadow <;> rfl
    exact ⟨encode_of_op h, hshadow ▸ exec_of_op h s⟩
  case im => cases m <;> exact ⟨encode_of_op h, exec_of_op h s⟩

end Sys2Proof.Machine
end

section
/-! Input and output (47_io.md) and the block instructions (48_block.md): after fetch an access of a port is that of the
state before it (`State.portRead_fetched`, `State.portWrite_fetched`), and a repeating form is its iteration, with PC set
back while its test holds. -/

namespace Sys2Proof.Machine

/-! ### IN and OUT -/

theorem inAPort_eq (n : Byte) (s : State) :
    inAPort n s =
      .next { s.advanced 2 1 11 with
        regs := { s.regs with a := (s.portRead n).1 }
        vdp := (s.portRead n).2.vdp
        draws := (s.portRead n).2.draws } := by
  simp only [inAPort, runFixed_eq, State.portRead_fetched]
  rfl

theorem inRegC_eq (r : R8) (s : State) :
    inRegC r s =
      .next { s.advanced 2 2 12 with
        regs := { s.regs.set r (s.portRead s.regs.c).1 with
          f := mergeF maskKeepC maskX s.regs.f (byteFlags (s.portRead s.regs.c).1)
            (Config.freeByte (s.portRead s.regs.c).2.draws) }
        vdp := (s.portRead s.regs.c).2.vdp
        draws := (s.portRead s.regs.c).2.draws + 1 } := by
  rw [← Regs.set_f s.regs r (s.portRead s.regs.c).1]
  simp only [inRegC, runFixed_eq, State.fetched_regs, State.portRead_fetched]
  rfl

theorem outPortA_eq (n : Byte) (s : State) :
    outPortA n s =
      .next { s.advanced 2 1 11 with
        vdp := (s.portWrite n s.regs.a).vdp, draws := (s.portWrite n s.regs.a).draws } := by
  simp only [outPortA, runFixed_eq, State.fetched_regs, State.portWrite_fetched]
  rfl

theorem outCReg_eq (r : R8) (s : State) :
    outCReg r s =
      .next { s.advanced 2 2 12 with
        vdp := (s.portWrite s.regs.c (s.regs.get r)).vdp
        draws := (s.portWrite s.regs.c (s.regs.get r)).draws } := by
  simp only [outCReg, runFixed_eq, State.fetched_regs, State.portWrite_fetched]
  rfl

/-- Settles O23: each form is read off its operation, whose next state its own lemma gives. -/
theorem portInstructions : Obligations.PortInstructions := by
  refine fun i s => ⟨fun n h => ?inAPort, fun r h => ?inRegC, fun n h => ?outPortA, fun r h => ?outCReg⟩
  case inAPort => exact ⟨encode_of_op h, (exec_of_op h s).trans (inAPort_eq n s)⟩
  case inRegC =>
    exact ⟨encode_of_op h, _, flagsAre_mergeF_byteFlags s.regs.f _ _, (exec_of_op h s).trans (inRegC_eq r s)⟩
  case outPortA => exact ⟨encode_of_op h, (exec_of_op h s).trans (outPortA_eq n s)⟩
  case outCReg => exact ⟨encode_of_op h, (exec_of_op h s).trans (outCReg_eq r s)⟩

/-! ### Repeating -/

/-- R430: an iteration, and PC back at the instruction while the test holds. -/
theorem runEither_repeat (iteration : State → State) (c : State → Prop) [∀ t, Decidable (c t)] (s : State) :
    runEither 2 2 21 16
        (fun t => if c t then ({ iteration t with pc := s.pc }, true) else (iteration t, false)) s =
      .next (if c (s.fetched 2 2) then ({ iteration (s.fetched 2 2) with pc := s.pc }).tick 21
        else (iteration (s.fetched 2 2)).tick 16) :=
  runEither_ite 2 2 21 16 c (fun t => { iteration t with pc := s.pc }) iteration s

/-! ### Block input and output -/

/-- F after a block input or output that leaves B at `b` (R404, R408, D4). -/
def ioFlags (old b drawn : Byte) : Byte :=
  mergeF maskZN maskIoDrawn old (flagByte false (b == 0) false false true false) drawn

theorem flags_ioFlags (old b drawn : Byte) :
    flagZ (ioFlags old b drawn) = (b == 0) ∧ flagN (ioFlags old b drawn) = true ∧
      flagC (ioFlags old b drawn) = flagC old := by
  simpa only [ioFlags, flagZ_flagByte, flagN_flagByte] using
    mergeF_io old (flagByte false (b == 0) false false true false) drawn

/-- R404, R406: `t` with the effect that one block input has in state `s`. -/
def State.blockInput (s : State) (g : Dir) (t : State) : State :=
  { t with
    regs := { s.regs.setHL (stepWord g s.regs.hl) with
      b := s.regs.b - 1
      f := ioFlags s.regs.f (s.regs.b - 1) (Config.freeByte (s.portRead s.regs.c).2.draws) }
    mem := s.mem.write s.regs.hl (s.portRead s.regs.c).1
    vdp := (s.portRead s.regs.c).2.vdp
    draws := (s.portRead s.regs.c).2.draws + 1 }

theorem inIteration_fetched (g : Dir) (s : State) :
    inIteration g (s.fetched 2 2) = s.blockInput g (s.fetched 2 2) := by
  simp only [inIteration, State.fetched_regs, State.portRead_fetched]
  rfl

theorem inBlock_eq (g : Dir) (s : State) : inBlock g s = .next (s.blockInput g (s.advanced 2 2 16)) := by
  rw [inBlock, runFixed_eq, inIteration_fetched]
  rfl

theorem inBlockRep_eq (g : Dir) (s : State) :
    inBlockRep g s =
      .next (if s.regs.b - 1 = 0 then s.blockInput g (s.advanced 2 2 16)
        else { s.blockInput g (s.advanced 2 2 21) with pc := s.pc }) := by
  unfold inBlockRep repeatB
  rw [runEither_repeat, inIteration_fetched, ite_not]
  rfl

/-- A port write reads no register. -/
theorem State.portWrite_mapRegs (s : State) (f : Regs → Regs) (p v : Byte) :
    (s.mapRegs f).portWrite p v = (s.portWrite p v).mapRegs f := by
  unfold State.portWrite
  split
  · rfl
  split <;> rfl

/-- R408, R410: `t` with the effect that one block output has in state `s`. -/
def State.blockOutput (s : State) (g : Dir) (t : State) : State :=
  { t with
    regs := { s.regs.setHL (stepWord g s.regs.hl) with
      b := s.regs.b - 1
      f := ioFlags s.regs.f (s.regs.b - 1) (Config.freeByte (s.portWrite s.regs.c (s.read s.regs.hl)).draws) }
    vdp := (s.portWrite s.regs.c (s.read s.regs.hl)).vdp
    draws := (s.portWrite s.regs.c (s.read s.regs.hl)).draws + 1 }

theorem outIteration_fetched (g : Dir) (s : State) :
    outIteration g (s.fetched 2 2) = s.blockOutput g (s.fetched 2 2) := by
  simp only [outIteration, State.fetched_regs, State.fetched_read, State.portWrite_mapRegs, State.portWrite_fetched]
  rfl

theorem outBlock_eq (g : Dir) (s : State) : outBlock g s = .next (s.blockOutput g (s.advanced 2 2 16)) := by
  rw [outBlock, runFixed_eq, outIteration_fetched]
  rfl

theorem outBlockRep_eq (g : Dir) (s : State) :
    outBlockRep g s =
      .next (if s.regs.b - 1 = 0 then s.blockOutput g (s.advanced 2 2 16)
        else { s.blockOutput g (s.advanced 2 2 21) with pc := s.pc }) := by
  unfold outBlockRep repeatB
  rw [runEither_repeat, outIteration_fetched, ite_not]
  rfl

/-- Settles O24: `inBlock_eq` and `inBlockRep_eq`, with the flags of `flags_ioFlags`. -/
theorem blockInput : Obligations.BlockInput := by
  refine fun i s g => ⟨fun h => ?once, fun h => ?rep⟩
  case once =>
    have hexec := (exec_of_op h s).trans (inBlock_eq g s)
    cases g <;> exact ⟨encode_of_op h, _, flags_ioFlags _ _ _, hexec⟩
  case rep =>
    have hexec := (exec_of_op h s).trans (inBlockRep_eq g s)
    cases g <;> exact ⟨encode_of_op h, _, flags_ioFlags _ _ _, hexec⟩

/-- Settles O25: `outBlock_eq` and `outBlockRep_eq`, with the flags of `flags_ioFlags`. -/
theorem blockOutput : Obligations.BlockOutput := by
  refine fun i s g => ⟨fun h => ?once, fun h => ?rep⟩
  case once =>
    have hexec := (exec_of_op h s).trans (outBlock_eq g s)
    cases g <;> exact ⟨encode_of_op h, _, flags_ioFlags _ _ _, hexec⟩
  case rep =>
    have hexec := (exec_of_op h s).trans (outBlockRep_eq g s)
    cases g <;> exact ⟨encode_of_op h, _, flags_ioFlags _ _ _, hexec⟩

/-! ### Block transfer and compare -/

/-- R431, R433: `t` with the effect that one block transfer has in state `s`. -/
def State.blockTransfer (s : State) (g : Dir) (t : State) : State :=
  { t with
    regs := { ((s.regs.setHL (stepWord g s.regs.hl)).setDE (stepWord g s.regs.de)).setBC (s.regs.bc - 1) with
      f := mergeF maskHPVN maskX s.regs.f (flagByte false false false (s.regs.bc - 1 != 0) false false) s.drawn }
    mem := s.mem.write s.regs.de (s.read s.regs.hl)
    draws := s.draws + 1 }

/-- The pair BC holds the word it was set to. -/
theorem Regs.bc_setBC (g : Regs) (w : Word) : (g.setBC w).bc = w := join_hi_lo w

theorem ldIteration_fetched (g : Dir) (s : State) :
    ldIteration g (s.fetched 2 2) = s.blockTransfer g (s.fetched 2 2) := by
  simp only [ldIteration, State.mapRegs_regs, Regs.bc_setBC]
  rfl

theorem ldBlock_eq (g : Dir) (s : State) : ldBlock g s = .next (s.blockTransfer g (s.advanced 2 2 16)) := by
  rw [ldBlock, runFixed_eq, ldIteration_fetched]
  rfl

theorem ldBlockRep_eq (g : Dir) (s : State) :
    ldBlockRep g s =
      .next (if s.regs.bc - 1 = 0 then s.blockTransfer g (s.advanced 2 2 16)
        else { s.blockTransfer g (s.advanced 2 2 21) with pc := s.pc }) := by
  have hbc : (s.blockTransfer g (s.fetched 2 2)).regs.bc = s.regs.bc - 1 := join_hi_lo _
  unfold ldBlockRep
  rw [runEither_repeat (ldIteration g) (fun t => (ldIteration g t).regs.bc ≠ 0), ldIteration_fetched, hbc, ite_not]
  rfl

/-- LDI: H = N = 0 and PV, with S, Z and C kept. -/
theorem flagsAre_mergeF_transfer (old drawn : Byte) (pv : Bool) :
    FlagsAre (mergeF maskHPVN maskX old (flagByte false false false pv false false) drawn)
      (flagS old) (flagZ old) false pv false (flagC old) := by
  simpa only [flagH_flagByte, flagPV_flagByte, flagN_flagByte]
    using flagsAre_mergeF_hpvn old (flagByte false false false pv false false) drawn

/-- Settles O26: `ldBlock_eq` and `ldBlockRep_eq`, with the flags of `flagsAre_mergeF_transfer`. -/
theorem blockTransfer : Obligations.BlockTransfer := by
  refine fun i s g => ⟨fun h => ?once, fun h => ?rep⟩
  case once =>
    have hexec := (exec_of_op h s).trans (ldBlock_eq g s)
    cases g <;> exact ⟨encode_of_op h, _, flagsAre_mergeF_transfer _ _ _, hexec⟩
  case rep =>
    have hexec := (exec_of_op h s).trans (ldBlockRep_eq g s)
    cases g <;> exact ⟨encode_of_op h, _, flagsAre_mergeF_transfer _ _ _, hexec⟩

/-- The flags that CPI computes for the byte `v` at HL, with C left to the mask (R435). -/
def compareFlags (a v : Byte) (bc : Word) : Byte :=
  flagByte (a - v).msb (a - v == 0) (decide (a.toNat % 16 < v.toNat % 16)) (bc != 0) true false

/-- R435, R437: `t` with the effect that one block compare has in state `s`. -/
def State.blockCompare (s : State) (g : Dir) (t : State) : State :=
  { t with
    regs := { (s.regs.setHL (stepWord g s.regs.hl)).setBC (s.regs.bc - 1) with
      f := mergeF maskKeepC maskX s.regs.f (compareFlags s.regs.a (s.read s.regs.hl) (s.regs.bc - 1)) s.drawn }
    draws := s.draws + 1 }

theorem cpIteration_fetched (g : Dir) (s : State) :
    cpIteration g (s.fetched 2 2) = (s.blockCompare g (s.fetched 2 2), s.regs.a - s.read s.regs.hl) := by
  simp only [cpIteration, State.mapRegs_regs, Regs.bc_setBC]
  rfl

theorem cpBlock_eq (g : Dir) (s : State) : cpBlock g s = .next (s.blockCompare g (s.advanced 2 2 16)) := by
  rw [cpBlock, runFixed_eq, cpIteration_fetched]
  rfl

theorem cpBlockRep_eq (g : Dir) (s : State) :
    cpBlockRep g s =
      .next (if s.regs.bc - 1 ≠ 0 ∧ s.regs.a - s.read s.regs.hl ≠ 0
        then { s.blockCompare g (s.advanced 2 2 21) with pc := s.pc }
        else s.blockCompare g (s.advanced 2 2 16)) := by
  have hbc : (s.blockCompare g (s.fetched 2 2)).regs.bc = s.regs.bc - 1 := join_hi_lo _
  unfold cpBlockRep
  rw [runEither_repeat (fun t => (cpIteration g t).1)
    (fun t => (cpIteration g t).1.regs.bc ≠ 0 ∧ (cpIteration g t).2 ≠ 0), cpIteration_fetched, hbc]
  rfl

theorem flagsAre_mergeF_compare (old drawn a v : Byte) (bc : Word) :
    FlagsAre (mergeF maskKeepC maskX old (compareFlags a v bc) drawn)
      (a - v).msb (a - v == 0) (decide (a.toNat % 16 < v.toNat % 16)) (bc != 0) true (flagC old) := by
  simpa only [compareFlags, flagS_flagByte, flagZ_flagByte, flagH_flagByte, flagPV_flagByte, flagN_flagByte]
    using flagsAre_mergeF_keepC old (compareFlags a v bc) drawn

/-- Settles O27: `cpBlock_eq` and `cpBlockRep_eq`, with the flags of `flagsAre_mergeF_compare`. -/
theorem blockCompare : Obligations.BlockCompare := by
  refine fun i s g => ⟨fun h => ?once, fun h => ?rep⟩
  case once =>
    have hexec := (exec_of_op h s).trans (cpBlock_eq g s)
    cases g <;> exact ⟨encode_of_op h, _, flagsAre_mergeF_compare _ _ _ _ _, hexec⟩
  case rep =>
    have hexec := (exec_of_op h s).trans (cpBlockRep_eq g s)
    cases g <;> exact ⟨encode_of_op h, _, flagsAre_mergeF_compare _ _ _ _ _, hexec⟩

end Sys2Proof.Machine
end

section
/-! The VDP (20_memory.md section 6, 60_exceptions.md sections 3 to 5): its ports, its registers, the interrupt generator
and the decoded views. -/

namespace Sys2Proof.Machine

/-! ### Port reads (R120) -/

/-- R523: the address steps mod 0x4000. -/
theorem addr_add_one (a : BitVec 14) : a + 1 = BitVec.ofNat 14 ((a.toNat + 1) % 0x4000) := by
  apply BitVec.eq_of_toNat_eq
  rw [BitVec.toNat_ofNat, Nat.mod_mod]
  exact BitVec.toNat_add a 1

theorem msb_statusByte (b : Bool) (x : Byte) : (bitIf b 0x80 ||| (x &&& 0x7F)).msb = b := by
  cases b <;> simp [bitIf, BitVec.msb_eq_getLsbD_last]

/-- Settles O43: one branch of `State.portRead` for each clause; the counters' ports are neither 0xBE nor 0xBF. -/
theorem portReads : Obligations.PortReads := by
  intro s p
  refine ⟨fun h => ?data, fun h => ?status, fun h => ?vCounter, fun h => ?hCounter, fun h1 h2 h3 h4 => ?other⟩
  case data =>
    rw [← addr_add_one]
    exact if_pos h
  case status =>
    subst h
    exact ⟨_, msb_statusByte _ _, rfl⟩
  case vCounter =>
    have hBE : p ≠ 0xBE#8 := by rintro rfl; revert h; decide
    have hBF : p ≠ 0xBF#8 := by rintro rfl; revert h; decide
    have hread : s.portRead p = s.vCounterRead := (if_neg hBE).trans ((if_neg hBF).trans (if_pos h))
    rw [hread, State.vCounterRead]
    by_cases hf : s.params.vcounterIsFunction = true
    · exact ⟨0, s.draws, by simp only [hf, if_true]; rfl⟩
    · exact ⟨s.drawn, s.draws + 1, by simp only [hf]; rfl⟩
  case hCounter =>
    have hBE : p ≠ 0xBE#8 := by rintro rfl; revert h; decide
    have hBF : p ≠ 0xBF#8 := by rintro rfl; revert h; decide
    have hV : p &&& 0xC1#8 ≠ 0x40#8 := fun hV => absurd (h.symm.trans hV) (by decide)
    exact ⟨s.drawn, (if_neg hBE).trans ((if_neg hBF).trans ((if_neg hV).trans (if_pos h)))⟩
  case other => exact (if_neg h1).trans ((if_neg h2).trans ((if_neg h3).trans (if_neg h4)))

/-! ### Port writes (R121, R523, R524) -/

section
variable (b : Byte)

theorem highDigit_eq_8_iff : b.extractLsb' 4 4 = 0b1000#4 ↔ b.toNat / 16 = 8 := by
  have hb := b.isLt
  rw [BitVec.toNat_eq, BitVec.extractLsb'_toNat, Nat.shiftRight_eq_div_pow]
  show b.toNat / 16 % 16 = 8 ↔ _
  omega

theorem codeBits_eq : b.extractLsb' 6 2 = BitVec.ofNat 2 (b.toNat / 64) := by
  apply BitVec.eq_of_toNat_eq
  rw [BitVec.extractLsb'_toNat, BitVec.toNat_ofNat, Nat.shiftRight_eq_div_pow]

theorem codeBits_eq_zero_iff : b.extractLsb' 6 2 = 0#2 ↔ b.toNat / 64 = 0 := by
  have hb := b.isLt
  rw [codeBits_eq, BitVec.toNat_eq, BitVec.toNat_ofNat]
  show b.toNat / 64 % 4 = 0 ↔ _
  omega

theorem registerBits_eq : b.extractLsb' 0 4 = BitVec.ofNat 4 (b.toNat % 16) := by
  apply BitVec.eq_of_toNat_eq
  rw [BitVec.extractLsb'_toNat, BitVec.toNat_ofNat, Nat.mod_mod]
  rfl

/-- R523: the address of the two control bytes. -/
theorem controlAddr_eq (low : Byte) :
    b.extractLsb' 0 6 ++ low = BitVec.ofNat 14 (b.toNat % 64 * 256 + low.toNat) := by
  have hlow := low.isLt
  apply BitVec.eq_of_toNat_eq
  rw [BitVec.toNat_append, ← Nat.shiftLeft_add_eq_or_of_lt hlow, BitVec.extractLsb'_toNat, BitVec.toNat_ofNat,
    Nat.shiftLeft_eq, Nat.shiftRight_zero, Nat.mod_eq_of_lt (a := b.toNat % 64 * 256 + low.toNat) (by omega)]

end

/-- A second control byte whose high digit is 8 is a register write. -/
theorem Vdp.controlWrite_register {v : Vdp} {b : Byte} (hl : v.latchPending = true) (hb : b.toNat / 16 = 8)
    (p : Params) (now : Nat) :
    v.controlWrite p now b =
      { v with latchPending := false, code := 2 }.registerWrite p now (BitVec.ofNat 4 (b.toNat % 16)) v.latchLow := by
  have hcode : b.extractLsb' 6 2 = 2#2 := by
    rw [codeBits_eq, show b.toNat / 64 = 2 by omega]
  rw [Vdp.controlWrite, hl, if_neg (by decide)]
  simp only [(highDigit_eq_8_iff b).2 hb, if_true, hcode, registerBits_eq]
  rfl

/-- Any other second control byte sets code and address, and code 0 prefetches. -/
theorem Vdp.controlWrite_address {v : Vdp} {b : Byte} (hl : v.latchPending = true) (hb : b.toNat / 16 ≠ 8)
    (p : Params) (now : Nat) :
    v.controlWrite p now b =
      let a : BitVec 14 := BitVec.ofNat 14 (b.toNat % 64 * 256 + v.latchLow.toNat)
      { v with
        latchPending := false
        code := BitVec.ofNat 2 (b.toNat / 64)
        addr := if b.toNat / 64 = 0 then a + 1 else a
        readBuffer := if b.toNat / 64 = 0 then Mem.read v.vram a.toNat else v.readBuffer } := by
  have h8 : ¬ b.extractLsb' 4 4 = 0b1000#4 := mt (highDigit_eq_8_iff b).1 hb
  rw [Vdp.controlWrite, hl, if_neg (by decide)]
  simp only [h8, if_false, codeBits_eq_zero_iff, controlAddr_eq]
  by_cases h0 : b.toNat / 64 = 0
  · simp only [h0, if_true, codeBits_eq]; rfl
  · simp only [h0, if_false, codeBits_eq]

/-- R524: VRAM, or CRAM with code 3. -/
theorem Vdp.dataWrite_eq (x b : Byte) (v : Vdp) :
    v.dataWrite x b =
      { v with
        latchPending := false
        cram := if v.code = 3 then Mem.write v.cram (v.addr.toNat % 32) b else v.cram
        vram := if v.code = 3 then v.vram else Mem.write v.vram v.addr.toNat b
        addr := v.addr + 1
        readBuffer := x } := by
  unfold Vdp.dataWrite
  by_cases hc : v.code = 3
  · simp only [hc, if_true]
  · simp only [hc, if_false]

theorem State.portWrite_data (s : State) (b : Byte) :
    s.portWrite 0xBE b = { s with vdp := s.vdp.dataWrite s.drawn b, draws := s.draws + 1 } := rfl

theorem State.portWrite_control (s : State) (b : Byte) :
    s.portWrite 0xBF b = { s with vdp := s.vdp.controlWrite s.params s.cycles b } := rfl

/-- Settles O44: one branch of `State.portWrite` for each port, and of `Vdp.controlWrite` for each control byte. -/
theorem portWrites : Obligations.PortWrites := by
  intro s p b
  refine ⟨fun h => ?data, fun h hl => ?first, fun h hl hb => ?register, fun h hl hb => ?address, fun h1 h2 => ?other⟩
  case data =>
    subst h
    refine ⟨s.drawn, ?_⟩
    rw [State.portWrite_data, Vdp.dataWrite_eq, addr_add_one]
  case first =>
    subst h
    rw [State.portWrite_control, Vdp.controlWrite, hl]
    rfl
  case register =>
    subst h
    rw [State.portWrite_control, Vdp.controlWrite_register hl hb]
  case address =>
    subst h
    rw [State.portWrite_control, Vdp.controlWrite_address hl hb]
  case other => exact (if_neg h1).trans (if_neg h2)

/-! ### Register writes (R526, R527) -/

theorem scrollFrom_getElem? (n : Nat) (b : Byte) (l : List Byte) {k : Nat} (hk : k < l.length) :
    (scrollFrom n b l)[k]? = if n ≤ k then some b else l[k]? := by
  rw [List.getElem?_eq_getElem (by rwa [scrollFrom_length]), scrollFrom_get n b l k hk, List.getElem?_eq_getElem hk]
  by_cases h : k < n
  · rw [if_pos h, if_neg (by omega)]
  · rw [if_neg h, if_pos (by omega)]

/-- A snapshot that only register `r` sets. -/
theorem scroll_ite_getElem? (i r : BitVec 4) (n : Nat) (b : Byte) (l : List Byte) {k : Nat} (hk : k < l.length) :
    (if i = r then scrollFrom n b l else l)[k]? = if i = r ∧ n ≤ k then some b else l[k]? := by
  by_cases h : i = r
  · simp only [h, if_true, true_and, scrollFrom_getElem? n b l hk]
  · simp only [h, if_false, false_and]

theorem scroll_ite_length (c : Prop) [Decidable c] (n : Nat) (b : Byte) (l : List Byte) :
    (if c then scrollFrom n b l else l).length = l.length := by
  split
  · exact scrollFrom_length n b l
  · rfl

/-- Settles O45: every field by `Vdp.registerWrite_eq`. -/
theorem vdpRegisterWrite : Obligations.VdpRegisterWrite := by
  intro v p now i b
  rw [Vdp.registerWrite_eq]
  exact ⟨rfl, fun j => Vdp.reg_set v i j b, rfl, scroll_ite_length _ _ _ _, scroll_ite_length _ _ _ _,
    fun k hk => scroll_ite_getElem? i 8 _ b _ hk, fun k hk => scroll_ite_getElem? i 9 _ b _ hk⟩

/-! ### The line interrupt (R541) -/

theorem Vdp.wrap_of_lt {p : Params} {t : Nat} {v : Vdp} (h : t < v.lastVsync + p.vsyncTime) : v.wrap p t = v :=
  if_neg (Nat.not_le.2 h)

theorem Vdp.vblank_of_lt {p : Params} {t : Nat} {v : Vdp} (h : t < v.lastVsync + p.vframeTime) : v.vblank p t = v :=
  if_neg fun hc => Nat.not_le.2 h hc.1

/-- The VDP `k` line boundaries after a frame wrap that loaded the counter with the reload value. -/
def Vdp.afterLines (p : Params) (k : Nat) (v : Vdp) : Vdp :=
  { v with
    lineTarget := v.lastVsync + (k + 1) * p.hsyncTime
    lineCounter := BitVec.ofNat 8 (v.lineReload.toNat - k % (v.lineReload.toNat + 1))
    hintPending := decide (v.lineReload.toNat + 1 ≤ k) }

/-- The position in a count of `n` boundaries starts again after its last one. -/
theorem succ_mod_of_last {n k : Nat} (h : k % n + 1 = n) : (k + 1) % n = 0 := by
  rw [← Nat.mod_add_mod, h, Nat.mod_self]

theorem succ_mod_of_not_last {n k : Nat} (hn : 0 < n) (h : k % n + 1 ≠ n) : (k + 1) % n = k % n + 1 := by
  have hlt := Nat.mod_lt k hn
  rw [← Nat.mod_add_mod, Nat.mod_eq_of_lt (by omega)]

theorem Vdp.afterLines_lineCounter_eq_zero_iff (p : Params) (k : Nat) (v : Vdp) :
    (v.afterLines p k).lineCounter = 0 ↔ k % (v.lineReload.toNat + 1) + 1 = v.lineReload.toNat + 1 := by
  have hlt := Nat.mod_lt k (show 0 < v.lineReload.toNat + 1 by omega)
  have hL := v.lineReload.isLt
  show BitVec.ofNat 8 (v.lineReload.toNat - k % (v.lineReload.toNat + 1)) = 0#8 ↔ _
  rw [BitVec.toNat_eq, BitVec.toNat_ofNat, Nat.mod_eq_of_lt (by omega)]
  show v.lineReload.toNat - k % (v.lineReload.toNat + 1) = 0 ↔ _
  omega

/-- The counter just after its last boundary: reloaded, and the interrupt is pending. -/
theorem Vdp.lineBoundary_afterLines (p : Params) (k : Nat) (v : Vdp) :
    (v.afterLines p k).lineBoundary p = v.afterLines p (k + 1) := by
  have hlt := Nat.mod_lt k (show 0 < v.lineReload.toNat + 1 by omega)
  have hle := Nat.mod_le k (v.lineReload.toNat + 1)
  have htarget : v.lastVsync + (k + 1) * p.hsyncTime + p.hsyncTime = v.lastVsync + (k + 1 + 1) * p.hsyncTime := by
    rw [Nat.succ_mul (k + 1), Nat.add_assoc]
  by_cases h : k % (v.lineReload.toNat + 1) + 1 = v.lineReload.toNat + 1
  · have hcounter : v.lineReload = BitVec.ofNat 8 (v.lineReload.toNat - (k + 1) % (v.lineReload.toNat + 1)) := by
      rw [succ_mod_of_last h, Nat.sub_zero, BitVec.ofNat_toNat, BitVec.setWidth_eq]
    have hpending : true = decide (v.lineReload.toNat + 1 ≤ k + 1) := (decide_eq_true (by omega)).symm
    rw [Vdp.lineBoundary, if_pos ((Vdp.afterLines_lineCounter_eq_zero_iff p k v).2 h)]
    simp only [Vdp.afterLines, htarget, ← hcounter, ← hpending]
  · have hcounter : BitVec.ofNat 8 (v.lineReload.toNat - k % (v.lineReload.toNat + 1)) - 1 =
        BitVec.ofNat 8 (v.lineReload.toNat - (k + 1) % (v.lineReload.toNat + 1)) := by
      have hL := v.lineReload.isLt
      rw [succ_mod_of_not_last (by omega) h]
      apply BitVec.eq_of_toNat_eq
      rw [BitVec.toNat_sub, BitVec.toNat_ofNat, BitVec.toNat_ofNat]
      show (2 ^ 8 - 1 + _) % 2 ^ 8 = _
      omega
    have hpending : decide (v.lineReload.toNat + 1 ≤ k) = decide (v.lineReload.toNat + 1 ≤ k + 1) := by
      have hk : k ≠ v.lineReload.toNat := by
        rintro rfl
        exact h (by rw [Nat.mod_eq_of_lt (Nat.lt_succ_self _)])
      exact decide_eq_decide.2 (by omega)
    rw [Vdp.lineBoundary, if_neg (mt (Vdp.afterLines_lineCounter_eq_zero_iff p k v).1 h)]
    simp only [Vdp.afterLines, htarget, hcounter, hpending]

/-- The loop only passes boundaries that are not after `t`. -/
theorem Vdp.lines_afterLines (p : Params) (t : Nat) (v : Vdp) :
    ∀ fuel k, v.lastVsync + k * p.hsyncTime ≤ t →
      ∃ n, v.lastVsync + n * p.hsyncTime ≤ t ∧ Vdp.lines p t fuel (v.afterLines p k) = v.afterLines p n := by
  intro fuel
  induction fuel with
  | zero => exact fun k hk => ⟨k, hk, rfl⟩
  | succ fuel ih =>
    intro k hk
    unfold Vdp.lines
    split
    · rename_i hnext
      rw [Vdp.lineBoundary_afterLines]
      exact ih (k + 1) hnext.1
    · exact ⟨k, hk, rfl⟩

/-- In the visible part of the frame the VDP is the one after all the line boundaries up to `t`. -/
theorem Vdp.lines_eq_afterLines {p : Params} (hp : 0 < p.hsyncTime) {t : Nat} {v : Vdp} (hle : v.lastVsync ≤ t)
    (hlt : t < v.lastVsync + p.vframeTime) :
    Vdp.lines p t (t + 1 - (v.afterLines p 0).lineTarget) (v.afterLines p 0) =
      v.afterLines p ((t - v.lastVsync) / p.hsyncTime) := by
  obtain ⟨n, hn, heq⟩ := Vdp.lines_afterLines p t v (t + 1 - (v.afterLines p 0).lineTarget) 0 (by omega)
  have hdone := Vdp.lines_done hp t _ (v.afterLines p 0) (Nat.le_refl _)
  rw [heq] at hdone
  have hafter : t < v.lastVsync + (n + 1) * p.hsyncTime := by
    by_contra hge
    exact hdone ⟨Nat.le_of_not_lt hge, Nat.lt_of_le_of_lt (Nat.le_of_not_lt hge) hlt⟩
  have hdiv : (t - v.lastVsync) / p.hsyncTime = n := Nat.div_eq_of_lt_le (by omega) (by omega)
  rw [heq, hdiv]

/-- Settles O46: the update passes exactly the boundaries up to the clock. -/
theorem lineInterruptPeriod : Obligations.LineInterruptPeriod := by
  intro p v t hp hframe hcounter htarget hpending hle hlt
  have hstart : v.afterLines p 0 = v := by
    cases v
    simp only at hcounter htarget hpending
    subst hcounter htarget hpending
    simp [Vdp.afterLines]
  have hupdate : v.update p t = v.afterLines p ((t - v.lastVsync) / p.hsyncTime) := by
    have hlines := Vdp.lines_eq_afterLines hp hle hlt
    rw [hstart] at hlines
    rw [Vdp.update, Vdp.wrap_of_lt (by omega)]
    show (Vdp.lines p t (t + 1 - v.lineTarget) v).vblank p t = _
    rw [hlines]
    exact Vdp.vblank_of_lt hlt
  show let w := v.update p t; _
  rw [hupdate]
  refine ⟨rfl, ?_, rfl, rfl⟩
  have hL := v.lineReload.isLt
  exact (BitVec.toNat_ofNat _ _).trans (Nat.mod_eq_of_lt (by omega))

/-! ### The frame interrupt and the frame wrap (R542, R543) -/

/-- The line boundaries leave the frame interrupt. -/
theorem Vdp.lines_frame (p : Params) (t : Nat) :
    ∀ (fuel : Nat) (v : Vdp), (Vdp.lines p t fuel v).lastVsync = v.lastVsync ∧
      (Vdp.lines p t fuel v).vintPending = v.vintPending ∧ (Vdp.lines p t fuel v).vintDone = v.vintDone := by
  intro fuel
  induction fuel with
  | zero => exact fun v => ⟨rfl, rfl, rfl⟩
  | succ fuel ih =>
    intro v
    unfold Vdp.lines Vdp.lineBoundary
    split
    · split <;> exact ih _
    · exact ⟨rfl, rfl, rfl⟩

/-- Before the end of the frame the update leaves the frame interrupt to `Vdp.vblank`. -/
theorem Vdp.update_of_lt {p : Params} {t : Nat} {v : Vdp} (h : t < v.lastVsync + p.vsyncTime) :
    ∃ w : Vdp, v.update p t = w.vblank p t ∧
      w.lastVsync = v.lastVsync ∧ w.vintPending = v.vintPending ∧ w.vintDone = v.vintDone :=
  ⟨_, by rw [Vdp.update, Vdp.wrap_of_lt h], Vdp.lines_frame p t (t + 1 - v.lineTarget) v⟩

/-- At the end of the frame the update is the wrap alone: no line boundary of the new frame is due, nor its interrupt. -/
theorem Vdp.update_of_wrap {p : Params} (hp : 0 < p.hsyncTime) (hframe : 0 < p.vframeTime) {t : Nat} {v : Vdp}
    (h : v.lastVsync + p.vsyncTime ≤ t) : v.update p t = v.wrap p t := by
  have hsync : (v.wrap p t).lastVsync = t := by rw [Vdp.wrap, if_pos h]
  have htarget : (v.wrap p t).lineTarget = t + p.hsyncTime := by rw [Vdp.wrap, if_pos h]
  have hfuel : t + 1 - (v.wrap p t).lineTarget = 0 := by omega
  rw [Vdp.update]
  simp only [hfuel, Vdp.lines]
  exact Vdp.vblank_of_lt (by omega)

theorem Vdp.vblank_of_le {p : Params} {t : Nat} {v : Vdp} (h : v.lastVsync + p.vframeTime ≤ t) :
    v.vblank p t = { v with vintPending := v.vintPending || !v.vintDone, vintDone := true } := by
  cases hd : v.vintDone with
  | false => rw [Vdp.vblank, if_pos ⟨h, hd⟩, Bool.not_false, Bool.or_true]
  | true =>
    rw [Vdp.vblank, if_neg fun hc => absurd (hd.symm.trans hc.2) (by decide), Bool.not_true, Bool.or_false, ← hd]

/-- Settles O47: the visible part, the part past VFRAMETIME, the wrap. -/
theorem frameInterrupt : Obligations.FrameInterrupt := by
  intro p v t hp hframe hle
  refine ⟨fun hvis hsync => ?visible, fun hpast hsync => ?past, fun hsync => ?wrap⟩
  case visible =>
    obtain ⟨w, hupdate, hlast, hpending, hdone⟩ := Vdp.update_of_lt (p := p) (t := t) (v := v) (by omega)
    rw [hupdate, Vdp.vblank_of_lt (by omega)]
    exact ⟨hpending, hdone, hlast⟩
  case past =>
    obtain ⟨w, hupdate, hlast, hpending, hdone⟩ := Vdp.update_of_lt (p := p) (t := t) (v := v) (by omega)
    rw [hupdate, Vdp.vblank_of_le (by omega), ← hpending, ← hdone]
    exact ⟨rfl, rfl, hlast⟩
  case wrap =>
    rw [Vdp.update_of_wrap hp hframe (by omega), Vdp.wrap, if_pos (by omega)]
    refine ⟨rfl, rfl, rfl, rfl, rfl, rfl, fun b hb => ?_, fun b hb => ?_, List.length_map .., List.length_map ..⟩
    · obtain ⟨-, -, rfl⟩ := List.mem_map.1 hb; rfl
    · obtain ⟨-, -, rfl⟩ := List.mem_map.1 hb; rfl

/-! ### The palette and the patterns (R528, R530) -/

theorem expandColour_eq (x : BitVec 2) : expandColour x = x.toNat * 85 := by
  unfold expandColour
  omega

theorem colourField_eq (c : Byte) (n : Nat) : (c.extractLsb' n 2).toNat = c.toNat / 2 ^ n % 4 := by
  rw [BitVec.extractLsb'_toNat, Nat.shiftRight_eq_div_pow]

/-- The number with four given binary digits is below 16. -/
theorem four_digits_lt (b : Nat → Bool) : ((List.range 4).map fun k => (b k).toNat * 2 ^ k).sum < 16 := by
  have h0 := (b 0).toNat_lt
  have h1 := (b 1).toNat_lt
  have h2 := (b 2).toNat_lt
  have h3 := (b 3).toNat_lt
  show (b 0).toNat * 2 ^ 0 + ((b 1).toNat * 2 ^ 1 + ((b 2).toNat * 2 ^ 2 + ((b 3).toNat * 2 ^ 3 + 0))) < 16
  omega

/-- A binary digit of the number with four given ones. -/
theorem four_digits_digit (b : Nat → Bool) (k : Fin 4) :
    ((List.range 4).map fun k => (b k).toNat * 2 ^ k).sum / 2 ^ k.val % 2 = (b k).toNat := by
  have h0 := (b 0).toNat_lt
  have h1 := (b 1).toNat_lt
  have h2 := (b 2).toNat_lt
  have h3 := (b 3).toNat_lt
  show ((b 0).toNat * 2 ^ 0 + ((b 1).toNat * 2 ^ 1 + ((b 2).toNat * 2 ^ 2 + ((b 3).toNat * 2 ^ 3 + 0)))) /
    2 ^ k.val % 2 = _
  match k with
  | 0 => show _ = (b 0).toNat; simp only [Fin.val_zero]; omega
  | 1 => show _ = (b 1).toNat; simp only [Fin.val_one]; omega
  | 2 => show _ = (b 2).toNat; simp only [Fin.val_two]; omega
  | 3 => show _ / 2 ^ 3 % 2 = (b 3).toNat; omega

/-- A byte is the sum of its bits, the most significant first. -/
theorem byte_eq_sum_bits (c : Byte) :
    BitVec.ofNat 8 ((List.finRange 8).map fun x => (c.getLsbD (7 - x.val)).toNat * 2 ^ (7 - x.val)).sum = c := by
  have hbit : ∀ i, (c.getLsbD i).toNat = c.toNat / 2 ^ i % 2 := fun i => Nat.toNat_testBit c.toNat i
  have hsum : ((List.finRange 8).map fun x => (c.getLsbD (7 - x.val)).toNat * 2 ^ (7 - x.val)).sum =
      c.toNat % 2 ^ (0 + 1 + 1 + 1 + 1 + 1 + 1 + 1 + 1) := by
    rw [show List.finRange 8 = [0, 1, 2, 3, 4, 5, 6, 7] from rfl]
    simp only [hbit, Nat.mod_pow_succ, List.map_cons, List.map_nil, List.sum_cons, List.sum_nil, Fin.isValue,
      Fin.coe_ofNat_eq_mod, Nat.reduceMod, Nat.reduceSub, Nat.reduceAdd, Nat.pow_zero, Nat.mod_one]
    ring
  rw [hsum, Nat.mod_eq_of_lt c.isLt, BitVec.ofNat_toNat, BitVec.setWidth_eq]

/-- Settles O48: the colour fields, the four digits of a pixel and the eight bits of a plane byte. -/
theorem decodedViews : Obligations.DecodedViews := by
  intro v
  refine ⟨fun i => ?_, fun p y k => ?_, fun p y x => four_digits_lt _⟩
  · simp only [Vdp.palette, expandColour_eq, colourField_eq, Nat.pow_zero, Nat.div_one]
    rfl
  · unfold planeByte Vdp.pixel
    simp only [four_digits_digit]
    exact byte_eq_sum_bits _

end Sys2Proof.Machine
end

section
/-! What each instruction may change: one inversion lemma over the operations, `Op.run_frame`, and the frame statements as
its uses (memory, the control registers, R and PC, the VDP, the clock). -/

namespace Sys2Proof.Machine

/-! ### A run of byte stores -/

/-- One byte stored at each address of the list, the first first. -/
inductive Mapper.Stored : List Word → Mapper → Mapper → Prop
  | nil (m : Mapper) : Mapper.Stored [] m m
  | cons {l : List Word} {m n : Mapper} (a : Word) (v : Byte) (h : Mapper.Stored l (m.write a v) n) :
      Mapper.Stored (a :: l) m n

theorem Mapper.Stored.one (m : Mapper) (a : Word) (v : Byte) : Mapper.Stored [a] m (m.write a v) :=
  .cons a v (.nil _)

theorem Mapper.Stored.two (m : Mapper) (a b : Word) (v w : Byte) :
    Mapper.Stored [a, b] m ((m.write a v).write b w) :=
  .cons a v (.one _ b w)

theorem Mapper.Stored.eq_of_nil {m n : Mapper} (h : Mapper.Stored [] m n) : n = m := by
  cases h
  rfl

/-- A byte that none of the stores reaches reads as before. -/
theorem Mapper.Stored.read_other {c : Cart} {l : List Word} {m n : Mapper} (h : Mapper.Stored l m n) {b : Word}
    (hb : ∀ a ∈ l, storeReaches a b = false) : n.read c b = m.read c b := by
  induction h with
  | nil => rfl
  | cons a v _ ih =>
    rw [ih fun a' ha' => hb a' (List.mem_cons_of_mem a ha')]
    exact Mapper.read_write_other v (hb a List.mem_cons_self)

/-! ### The states that data operations reach -/

/-- Only the registers, the memory, the VDP and the count of free values differ. -/
def State.OnlyData (s u : State) : Prop :=
  u = { s with regs := u.regs, mem := u.mem, vdp := u.vdp, draws := u.draws }

theorem State.OnlyData.proj {α : Type} {s u : State} (h : s.OnlyData u) (f : State → α) :
    f u = f { s with regs := u.regs, mem := u.mem, vdp := u.vdp, draws := u.draws } :=
  congrArg f h

theorem State.OnlyData.trans {s u w : State} (h : s.OnlyData u) (h' : u.OnlyData w) : s.OnlyData w :=
  Eq.trans h' (congrArg (fun x : State => { x with regs := w.regs, mem := w.mem, vdp := w.vdp, draws := w.draws }) h)

theorem State.onlyData_portRead (s : State) (p : Byte) : s.OnlyData (s.portRead p).2 := by
  unfold State.OnlyData
  rw [State.portRead_frame]

theorem State.onlyData_portWrite (s : State) (p v : Byte) : s.OnlyData (s.portWrite p v) := by
  unfold State.OnlyData
  rw [State.portWrite_frame]

theorem State.portRead_mem (s : State) (p : Byte) : (s.portRead p).2.mem = s.mem := by
  rw [State.portRead_frame]

theorem State.portWrite_mem (s : State) (p v : Byte) : (s.portWrite p v).mem = s.mem := by
  rw [State.portWrite_frame]

theorem inIteration_onlyData (g : Dir) (t : State) : t.OnlyData (inIteration g t) :=
  (t.onlyData_portRead t.regs.c).trans rfl

theorem inIteration_stored (g : Dir) (t : State) : Mapper.Stored [t.regs.hl] t.mem (inIteration g t).mem := by
  have hregs : (t.portRead t.regs.c).2.regs = t.regs := by rw [State.portRead_frame]
  have h := Mapper.Stored.one (t.portRead t.regs.c).2.mem (t.portRead t.regs.c).2.regs.hl (t.portRead t.regs.c).1
  rw [State.portRead_mem, hregs] at h
  show Mapper.Stored _ _ ((t.portRead t.regs.c).2.mem.write t.regs.hl (t.portRead t.regs.c).1)
  rw [State.portRead_mem]
  exact h

theorem outIteration_onlyData (g : Dir) (t : State) : t.OnlyData (outIteration g t) :=
  State.OnlyData.trans (u := t.mapRegs fun q => { q with b := q.b - 1 }) rfl
    ((State.onlyData_portWrite _ t.regs.c (t.read t.regs.hl)).trans rfl)

theorem outIteration_mem (g : Dir) (t : State) : (outIteration g t).mem = t.mem :=
  State.portWrite_mem (t.mapRegs fun q => { q with b := q.b - 1 }) t.regs.c (t.read t.regs.hl)

/-! ### The opcode fetches of an operation (R41) -/

/-- `Instr.fetchCount`, of an operation. -/
def Op.fetchCount (o : Op) : Nat :=
  match o.encode with
  | b :: _ => if b = 0xCB ∨ b = 0xED ∨ b = 0xDD ∨ b = 0xFD then 2 else 1
  | [] => 0

theorem Op.fetchCount_of_encode {o : Op} {b : Byte} {l : List Byte} (h : o.encode = b :: l) :
    Op.fetchCount o = if b = 0xCB ∨ b = 0xED ∨ b = 0xDD ∨ b = 0xFD then 2 else 1 := by
  unfold Op.fetchCount
  rw [h]

theorem Op.fetchCount_of_lead {o : Op} {x : Idx} {l : List Byte} (h : o.encode = x.lead :: l) : Op.fetchCount o = 2 := by
  rw [Op.fetchCount_of_encode h]
  cases x <;> rfl

/-- The four bytes are `11 001 011`, `11 101 101`, `11 011 101` and `11 111 101`. -/
theorem opXYZ_leads_none : ∀ (x : BitVec 2) (y z : BitVec 3), x ≠ 3 ∨ (z ≠ 3 ∧ z ≠ 5) →
    ¬ (opXYZ x y z = 0xCB ∨ opXYZ x y z = 0xED ∨ opXYZ x y z = 0xDD ∨ opXYZ x y z = 0xFD) := by
  decide

theorem opXPQ_leads_none : ∀ (x p : BitVec 2) (qz : BitVec 4), x ≠ 3 ∨ qz = 1 ∨ qz = 5 →
    ¬ (opXPQ x p qz = 0xCB ∨ opXPQ x p qz = 0xED ∨ opXPQ x p qz = 0xDD ∨ opXPQ x p qz = 0xFD) := by
  decide

theorem Op.fetchCount_of_opXYZ {o : Op} {x : BitVec 2} {y z : BitVec 3} {l : List Byte}
    (h : o.encode = opXYZ x y z :: l) (hx : x ≠ 3 ∨ (z ≠ 3 ∧ z ≠ 5)) : Op.fetchCount o = 1 := by
  rw [Op.fetchCount_of_encode h, if_neg (opXYZ_leads_none x y z hx)]

theorem Op.fetchCount_of_opXPQ {o : Op} {x p : BitVec 2} {qz : BitVec 4} {l : List Byte}
    (h : o.encode = opXPQ x p qz :: l) (hx : x ≠ 3 ∨ qz = 1 ∨ qz = 5) : Op.fetchCount o = 1 := by
  rw [Op.fetchCount_of_encode h, if_neg (opXPQ_leads_none x p qz hx)]

/-! ### The frame of an operation

An operation is a fetch, a body and its T-states. `Op.Frame` says what the body leaves; `Op.Answers` puts the three
together, and `Op.run_frame` proves it for each operation, once. -/

/-- What operation `o` leaves of `s`, the state after its fetch, in `u`, the state before its T-states are counted. A field
not given is kept by the operation's own text. -/
structure Op.Frame (o : Op) (s u : State) : Prop where
  stored : Mapper.Stored (Op.storeTargets o s) s.mem u.mem
  vdp : Op.accessesPort o = false → u.vdp = s.vdp := by intros; rfl
  pc : Op.branches o = false → u.pc = s.pc := by intros; rfl
  i : o ≠ .ldIA → u.i = s.i := by intros; rfl
  r : o ≠ .ldRA → u.r = s.r := by intros; rfl
  im : (∀ m, o ≠ .im m) → u.im = s.im := by intros; rfl
  halted : o ≠ .halt → u.halted = s.halted := by intros; rfl
  iff2 : o ≠ .di → o ≠ .ei → u.iff2 = s.iff2 := by intros; rfl
  iff1 : o ≠ .di → o ≠ .ei → o ≠ .reti → o ≠ .retn → u.iff1 = s.iff1 := by intros; rfl
  eiShadow : o ≠ .ei → u.eiShadow = s.eiShadow := by intros; rfl
  cycles : u.cycles = s.cycles := by rfl
  fault : u.fault = s.fault := by rfl
  cart : u.cart = s.cart := by rfl
  params : u.params = s.params := by rfl

/-- The frame of an operation that changes PC and data alone. -/
theorem Op.Frame.of_pc_data {o : Op} {s u : State} (h : State.OnlyData { s with pc := u.pc } u)
    (hpc : Op.branches o = false → u.pc = s.pc) (hvdp : Op.accessesPort o = false → u.vdp = s.vdp)
    (hstored : Mapper.Stored (Op.storeTargets o s) s.mem u.mem) : Op.Frame o s u where
  stored := hstored
  vdp := hvdp
  pc := hpc
  i _ := h.proj State.i
  r _ := h.proj State.r
  im _ := h.proj State.im
  halted _ := h.proj State.halted
  iff2 _ _ := h.proj State.iff2
  iff1 _ _ _ _ := h.proj State.iff1
  eiShadow _ := h.proj State.eiShadow
  cycles := h.proj State.cycles
  fault := h.proj State.fault
  cart := h.proj State.cart
  params := h.proj State.params

/-- The frame of an operation that changes data alone. -/
theorem Op.Frame.of_data {o : Op} {s u : State} (h : s.OnlyData u) (hvdp : Op.accessesPort o = false → u.vdp = s.vdp)
    (hstored : Mapper.Stored (Op.storeTargets o s) s.mem u.mem) : Op.Frame o s u :=
  have hpc : u.pc = s.pc := h.proj State.pc
  .of_pc_data (by rw [hpc]; exact h) (fun _ => hpc) hvdp hstored

/-- `r` is what operation `o` may answer in state `s`: 4 to 23 T-states after a state in its frame. -/
def Op.Answers (o : Op) (s : State) (r : Result) : Prop :=
  ∃ (u : State) (cyc : Nat), r = .next (u.tick cyc) ∧ (4 ≤ cyc ∧ cyc ≤ 23) ∧
    Op.Frame o (s.fetched o.encode.length (Op.fetchCount o)) u

theorem Op.answers_runFixed {o : Op} {s : State} {len m1 cyc : Nat} {body : State → State}
    (hlen : o.encode.length = len) (hm1 : Op.fetchCount o = m1) (hcyc : decide (4 ≤ cyc ∧ cyc ≤ 23) = true)
    (h : Op.Frame o (s.fetched len m1) (body (s.fetched len m1))) : Op.Answers o s (runFixed len m1 cyc body s) := by
  subst hlen hm1
  exact ⟨_, _, rfl, of_decide_eq_true hcyc, h⟩

theorem Op.answers_runEither {o : Op} {s : State} {len m1 yes no : Nat} {body : State → State × Bool}
    (hlen : o.encode.length = len) (hm1 : Op.fetchCount o = m1)
    (hyes : decide (4 ≤ yes ∧ yes ≤ 23) = true) (hno : decide (4 ≤ no ∧ no ≤ 23) = true)
    (h : Op.Frame o (s.fetched len m1) (body (s.fetched len m1)).1) :
    Op.Answers o s (runEither len m1 yes no body s) := by
  subst hlen hm1
  refine ⟨_, _, rfl, ?_, h⟩
  split
  · exact of_decide_eq_true hyes
  · exact of_decide_eq_true hno

/-- A jump, or none. -/
theorem Op.Frame.of_jump {o : Op} (hb : Op.branches o = true) {s u : State} (h : State.OnlyData { s with pc := u.pc } u)
    (hvdp : Op.accessesPort o = false → u.vdp = s.vdp) (hstored : Mapper.Stored (Op.storeTargets o s) s.mem u.mem) :
    Op.Frame o s u :=
  .of_pc_data h (fun hf => absurd (hb.symm.trans hf) (by decide)) hvdp hstored

/-- A conditional transfer is in its frame if it is taken and if it is not. -/
theorem Op.Frame.of_whenCond {o : Op} {s : State} {k : Cond} {f : State → State}
    (hyes : condHolds k s.regs.f = true → Op.Frame o s (f s)) (hno : condHolds k s.regs.f = false → Op.Frame o s s) :
    Op.Frame o s (s.whenCond k f).1 := by
  unfold State.whenCond
  split
  next h => exact hyes h
  next h => exact hno (Bool.eq_false_iff.2 h)

/-- A block instruction goes back to itself or not. -/
theorem Op.Frame.of_repeat {o : Op} (hb : Op.branches o = true) {s u : State} {w : Word} {c : Prop} [Decidable c]
    (h : s.OnlyData u) (hvdp : Op.accessesPort o = false → u.vdp = s.vdp)
    (hstored : Mapper.Stored (Op.storeTargets o s) s.mem u.mem) :
    Op.Frame o s (if c then ({ u with pc := w }, true) else (u, false)).1 := by
  split
  · have hback : { u with pc := w } = { { s with pc := w } with
        regs := u.regs, mem := u.mem, vdp := u.vdp, draws := u.draws } :=
      congrArg (fun x : State => { x with pc := w }) h
    exact .of_jump hb hback hvdp hstored
  · exact .of_data h hvdp hstored

theorem Op.storeTargets_callCond_of_holds {k : Cond} {nn : Word} {s : State} (h : condHolds k s.regs.f = true) :
    Op.storeTargets (.callCond k nn) s = pushTargets s :=
  if_pos h

theorem Op.storeTargets_callCond_of_not_holds {k : Cond} {nn : Word} {s : State} (h : condHolds k s.regs.f = false) :
    Op.storeTargets (.callCond k nn) s = [] :=
  if_neg (Bool.eq_false_iff.1 h)

/-- Every operation answers a state of its frame. The cases stand together where the stores (none, one or two bytes) and
the shape of the first byte, which gives the opcode fetches, are the same. -/
theorem Op.run_frame (o : Op) (s : State) : Op.Answers o s (Op.run o s) := by
  cases o
  all_goals unfold Op.run
  case ldRegReg | ldRegImm | ldRegHL =>
    exact answers_runFixed rfl (fetchCount_of_opXYZ rfl (.inl (by decide))) rfl
      (.of_data rfl (fun _ => rfl) (.nil _))
  case ldABC | ldADE | ldAMem | ldAI | ldHLMem | ldPairMem | ldSPHL | exDEHL | exAF | exx | adcHL | sbcHL | rlca | rrca
      | rla | rra | bitTestReg | bitTestHL | cpBlock | nop | neg | cpl | scf | ccf | daa =>
    exact answers_runFixed rfl rfl rfl (.of_data rfl (fun _ => rfl) (.nil _))
  case ldRegIdx | ldIdxImm | ldIdxMem | ldSPIdx | popIdx | addIdx | incIdx | decIdx | bitTestIdx =>
    exact answers_runFixed rfl (fetchCount_of_lead rfl) rfl (.of_data rfl (fun _ => rfl) (.nil _))
  case ldPairImm | addHL | incPair | decPair =>
    exact answers_runFixed rfl (fetchCount_of_opXPQ rfl (.inl (by decide))) rfl
      (.of_data rfl (fun _ => rfl) (.nil _))
  case pop =>
    exact answers_runFixed rfl (fetchCount_of_opXPQ rfl (.inr (.inl rfl))) rfl
      (.of_data rfl (fun _ => rfl) (.nil _))
  case ldHLReg =>
    exact answers_runFixed rfl (fetchCount_of_opXYZ rfl (.inl (by decide))) rfl
      (.of_data rfl (fun _ => rfl) (.one _ _ _))
  case ldHLImm | ldBCA | ldDEA | ldMemA | rld | rrd | ldBlock =>
    exact answers_runFixed rfl rfl rfl (.of_data rfl (fun _ => rfl) (.one _ _ _))
  case ldIdxReg | ldIdxNum =>
    exact answers_runFixed rfl (fetchCount_of_lead rfl) rfl (.of_data rfl (fun _ => rfl) (.one _ _ _))
  case ldMemHL | ldMemPair | exSPHL =>
    exact answers_runFixed rfl rfl rfl (.of_data rfl (fun _ => rfl) (.two _ _ _ _ _))
  case ldMemIdx | exSPIdx | pushIdx =>
    exact answers_runFixed rfl (fetchCount_of_lead rfl) rfl (.of_data rfl (fun _ => rfl) (.two _ _ _ _ _))
  case push =>
    exact answers_runFixed rfl (fetchCount_of_opXPQ rfl (.inr (.inr rfl))) rfl
      (.of_data rfl (fun _ => rfl) (.two _ _ _ _ _))
  case ldAR =>
    refine answers_runFixed rfl rfl rfl ?_
    split
    · exact .of_data rfl (fun _ => rfl) (.nil _)
    · exact .of_data rfl (fun _ => rfl) (.nil _)
  case alu op src =>
    cases src with
    | reg | atHL =>
      exact answers_runFixed rfl (fetchCount_of_opXYZ rfl (.inl (by decide))) rfl
        (.of_data rfl (fun _ => rfl) (.nil _))
    | imm =>
      exact answers_runFixed rfl (fetchCount_of_opXYZ rfl (.inr (by decide))) rfl
        (.of_data rfl (fun _ => rfl) (.nil _))
    | atIdx =>
      exact answers_runFixed rfl (fetchCount_of_lead rfl) rfl (.of_data rfl (fun _ => rfl) (.nil _))
  case incLoc m | decLoc m =>
    cases m with
    | reg =>
      exact answers_runFixed rfl (fetchCount_of_opXYZ rfl (.inl (by decide))) rfl
        (.of_data rfl (fun _ => rfl) (.nil _))
    | atHL => exact answers_runFixed rfl rfl rfl (.of_data rfl (fun _ => rfl) (.one _ _ _))
    | atIdx =>
      exact answers_runFixed rfl (fetchCount_of_lead rfl) rfl (.of_data rfl (fun _ => rfl) (.one _ _ _))
  case rot _ m | resBit _ m | setBit _ m =>
    cases m with
    | reg => exact answers_runFixed rfl rfl rfl (.of_data rfl (fun _ => rfl) (.nil _))
    | atHL => exact answers_runFixed rfl rfl rfl (.of_data rfl (fun _ => rfl) (.one _ _ _))
    | atIdx =>
      exact answers_runFixed rfl (fetchCount_of_lead rfl) rfl (.of_data rfl (fun _ => rfl) (.one _ _ _))
  case jp | jpHL | jr | ret =>
    exact answers_runFixed rfl rfl rfl (.of_jump rfl rfl (fun _ => rfl) (.nil _))
  case jpIdx =>
    exact answers_runFixed rfl (fetchCount_of_lead rfl) rfl (.of_jump rfl rfl (fun _ => rfl) (.nil _))
  case call => exact answers_runFixed rfl rfl rfl (.of_jump rfl rfl (fun _ => rfl) (.two _ _ _ _ _))
  case rst =>
    exact answers_runFixed rfl (fetchCount_of_opXYZ rfl (.inr (by decide))) rfl
      (.of_jump rfl rfl (fun _ => rfl) (.two _ _ _ _ _))
  case jpCond | retCond =>
    exact answers_runEither rfl (fetchCount_of_opXYZ rfl (.inr (by decide))) rfl rfl
      (.of_whenCond (fun _ => .of_jump rfl rfl (fun _ => rfl) (.nil _))
        fun _ => .of_data rfl (fun _ => rfl) (.nil _))
  case jrCond =>
    exact answers_runEither rfl (fetchCount_of_opXYZ rfl (.inl (by decide))) rfl rfl
      (.of_whenCond (fun _ => .of_jump rfl rfl (fun _ => rfl) (.nil _))
        fun _ => .of_data rfl (fun _ => rfl) (.nil _))
  case callCond k nn =>
    refine answers_runEither rfl (fetchCount_of_opXYZ rfl (.inr (by decide))) rfl rfl
      (.of_whenCond (fun h => .of_jump rfl rfl (fun _ => rfl) ?_) fun h => .of_data rfl (fun _ => rfl) ?_)
    · rw [storeTargets_callCond_of_holds h]
      exact .two _ _ _ _ _
    · rw [storeTargets_callCond_of_not_holds h]
      exact .nil _
  case djnz =>
    refine answers_runEither rfl rfl rfl rfl ?_
    dsimp only
    split
    · exact .of_jump rfl rfl (fun _ => rfl) (.nil _)
    · exact .of_data rfl (fun _ => rfl) (.nil _)
  case inAPort | inRegC =>
    refine answers_runFixed rfl rfl rfl (.of_data ((State.onlyData_portRead _ _).trans rfl) nofun ?_)
    exact (State.portRead_mem _ _).symm ▸ .nil _
  case outPortA | outCReg =>
    refine answers_runFixed rfl rfl rfl (.of_data (State.onlyData_portWrite _ _ _) nofun ?_)
    exact (State.portWrite_mem _ _ _).symm ▸ .nil _
  case inBlock =>
    exact answers_runFixed rfl rfl rfl (.of_data (inIteration_onlyData _ _) nofun (inIteration_stored _ _))
  case inBlockRep =>
    exact answers_runEither rfl rfl rfl rfl
      (.of_repeat rfl (inIteration_onlyData _ _) nofun (inIteration_stored _ _))
  case outBlock =>
    exact answers_runFixed rfl rfl rfl
      (.of_data (outIteration_onlyData _ _) nofun ((outIteration_mem _ _).symm ▸ .nil _))
  case outBlockRep =>
    exact answers_runEither rfl rfl rfl rfl
      (.of_repeat rfl (outIteration_onlyData _ _) nofun ((outIteration_mem _ _).symm ▸ .nil _))
  case ldBlockRep =>
    exact answers_runEither rfl rfl rfl rfl (.of_repeat rfl rfl (fun _ => rfl) (.one _ _ _))
  case cpBlockRep =>
    exact answers_runEither rfl rfl rfl rfl (.of_repeat rfl rfl (fun _ => rfl) (.nil _))
  case ldIA => exact answers_runFixed rfl rfl rfl { stored := .nil _, i := fun h => absurd rfl h }
  case ldRA => exact answers_runFixed rfl rfl rfl { stored := .nil _, r := fun h => absurd rfl h }
  case halt => exact answers_runFixed rfl rfl rfl { stored := .nil _, halted := fun h => absurd rfl h }
  case di =>
    exact answers_runFixed rfl rfl rfl
      { stored := .nil _, iff1 := fun h _ _ _ => absurd rfl h, iff2 := fun h _ => absurd rfl h }
  case ei =>
    exact answers_runFixed rfl rfl rfl
      { stored := .nil _, iff1 := fun _ h _ _ => absurd rfl h, iff2 := fun _ h => absurd rfl h
        eiShadow := fun h => absurd rfl h }
  case im m =>
    exact answers_runFixed rfl rfl rfl { stored := .nil _, im := fun h => absurd rfl (h m) }
  case reti =>
    exact answers_runFixed rfl rfl rfl { stored := .nil _, pc := nofun, iff1 := fun _ _ h _ => absurd rfl h }
  case retn =>
    exact answers_runFixed rfl rfl rfl { stored := .nil _, pc := nofun, iff1 := fun _ _ _ h => absurd rfl h }

/-- The same of an instruction. -/
theorem exec_answers (i : Instr) (s : State) : Op.Answers i.op s (exec i s) := by
  rw [exec_eq_run]
  exact Op.run_frame i.op s

/-! ### The statements -/

/-- Settles O41: every operation answers a state of its frame (`exec_answers`). -/
theorem everyInstructionCompletes : Obligations.EveryInstructionCompletes := by
  intro i s
  obtain ⟨u, cyc, hexec, ⟨hlo, hhi⟩, hframe⟩ := exec_answers i s
  have hcycles : (u.tick cyc).cycles = s.cycles + cyc := congrArg (· + cyc) hframe.cycles
  exact ⟨u.tick cyc, hexec, hframe.fault, by omega, by omega⟩

/-- The next state is the one of `exec_answers`. -/
theorem exec_frame {i : Instr} {s t : State} (e : exec i s = .next t) :
    ∃ (u : State) (cyc : Nat), t = u.tick cyc ∧ Op.Frame i.op (s.fetched i.op.encode.length (Op.fetchCount i.op)) u := by
  obtain ⟨u, cyc, hexec, -, hframe⟩ := exec_answers i s
  rw [hexec] at e
  cases e
  exact ⟨u, cyc, rfl, hframe⟩

/-- Fetching moves no address that an operation stores to. -/
theorem Op.storeTargets_fetched (o : Op) (s : State) (len m1 : Nat) :
    Op.storeTargets o (s.fetched len m1) = Op.storeTargets o s := by
  cases o <;> rfl

/-- Settles O34: every change of the memory is a store at one of the targets. -/
theorem memoryFrame : Obligations.MemoryFrame := by
  intro i s t e
  obtain ⟨u, cyc, rfl, hframe⟩ := exec_frame e
  have hstored := hframe.stored
  rw [Op.storeTargets_fetched] at hstored
  have hread : ∀ b, (∀ a ∈ Op.storeTargets i.op s, storeReaches a b = false) → (u.tick cyc).read b = s.read b := by
    intro b hb
    show u.mem.read u.cart b = s.mem.read s.cart b
    rw [hframe.cart]
    exact hstored.read_other hb
  refine ⟨hread, fun hnil => ⟨?_, fun b => hread b fun a ha => ?_⟩, hframe.cart, hframe.params, hframe.fault⟩
  · rw [hnil] at hstored
    exact hstored.eq_of_nil
  · rw [hnil] at ha
    exact absurd ha List.not_mem_nil

/-- Settles O57: the fetch, which the operation leaves. -/
theorem refreshAndPcAdvance : Obligations.RefreshAndPcAdvance := by
  intro i s t e
  obtain ⟨u, cyc, rfl, hframe⟩ := exec_frame e
  refine ⟨fun hop => ?_, hframe.pc⟩
  have hr : (u.tick cyc).r = countR s.r (Op.fetchCount i.op) := hframe.r hop
  rw [hr]
  exact ⟨countR_low s.r _, countR_msb s.r _⟩

/-- Settles O58: the control registers' fields of the frame. -/
theorem controlRegisterWriters : Obligations.ControlRegisterWriters := by
  intro i s t e
  obtain ⟨u, cyc, rfl, hframe⟩ := exec_frame e
  exact ⟨hframe.i, hframe.im, hframe.halted, hframe.iff2, hframe.iff1, hframe.eiShadow⟩

/-- Settles O59: the VDP's field of the frame. -/
theorem vdpOnlyThroughPorts : Obligations.VdpOnlyThroughPorts := by
  intro i s t e
  obtain ⟨u, cyc, rfl, hframe⟩ := exec_frame e
  exact hframe.vdp

end Sys2Proof.Machine
end
